-- ==== Sys2Proof/Word.lean ====
section
/-!
DEFINITION. The plain types every other file is written over: bytes, small sets, the numbers that
name ports, drops, units and slots (00_scope.md, Scale of the part; Conventions), and tables of a
fixed length.
-/

namespace Sys2Proof

/-- One byte of a station frame, a leg frame, a matrix frame or a journal record. -/
abbrev Byte := BitVec 8

/-- A set of tiers or of band groups, numbers 0 to 7: bit n is set when n is a member (R170). -/
abbrev Set8 := BitVec 8

/-- A station port SP0 to SP3 (R163). -/
abbrev Port := Fin 4
/-- A plant leg 0 to 3. -/
abbrev Leg := Fin 4
/-- A drop address 0 to 2,047 (R1). -/
abbrev Drop := Fin 2048
/-- A tap unit by its plant-wide number 0 to 127 (R90). -/
abbrev UnitNo := Fin 128
/-- A tap unit by its number within its leg, 0 to 31. -/
abbrev LegUnit := Fin 32
/-- A port of a tap unit, 0 to 15. -/
abbrev TapPort := Fin 16
/-- A plant node 0 to 63 (R96). -/
abbrev NodeNo := Fin 64
/-- A channel slot 0 to 47 (R19). -/
abbrev Slot := Fin 48
/-- A program source 0 to 63 (R38). -/
abbrev Source := Fin 64
/-- A tier 0 to 7. -/
abbrev Tier := Fin 8
/-- A band group 0 to 7. -/
abbrev Group := Fin 8
/-- An edit lock 0 to 18 (R154). -/
abbrev LockNo := Fin 19
/-- A table memory sector 0 to 511 (R176). -/
abbrev Sector := Fin 512

/-- The sixteen port images of one unit, or any other value per tap port. -/
abbrev PerPort (α : Type) := Vector α 16

/-- The table of length `n` whose entry `i` is `f i`. -/
def tabulate {α : Type} (n : Nat) (f : Fin n → α) : Vector α n :=
  ⟨⟨(List.finRange n).map f⟩, by simp⟩

/-- Entry `i` of a table. -/
def look {α : Type} {n : Nat} (v : Vector α n) (i : Fin n) : α := v[i]

/-- The table with entry `i` replaced. -/
def put {α : Type} {n : Nat} (v : Vector α n) (i : Fin n) (x : α) : Vector α n := v.set i x i.isLt

@[simp] theorem look_tabulate {α : Type} {n : Nat} (f : Fin n → α) (i : Fin n) :
    look (tabulate n f) i = f i := by simp [tabulate, look]

@[simp] theorem look_put_self {α : Type} {n : Nat} (v : Vector α n) (i : Fin n) (x : α) :
    look (put v i x) i = x := by simp [look, put]

theorem look_put {α : Type} {n : Nat} (v : Vector α n) (i j : Fin n) (x : α) :
    look (put v i x) j = if i = j then x else look v j := by
  simp [look, put, Vector.getElem_set, Fin.ext_iff]

@[simp] theorem look_put_ne {α : Type} {n : Nat} (v : Vector α n) (i j : Fin n) (x : α)
    (h : j ≠ i) : look (put v i x) j = look v j := by
  simp [look_put, Ne.symm h]

@[simp] theorem look_replicate {α : Type} {n : Nat} (x : α) (i : Fin n) :
    look (Vector.replicate n x) i = x := by simp [look]

end Sys2Proof
end

