-- ==== Sys2Proof/Syntax.lean ====
section
/-!
DEFINITION. The commands: one constructor for each row of spec/opcode_table.json, in the table's
order. A row that carries out a station request names the port at which the request was taken; the
request's arguments stand in the frame that the port holds (R165, R170). The other rows are events on
the pins, the links and the timers, with what the event brings.
-/

namespace Sys2Proof

/-- The level of a line: mark (idle) or space (R57). -/
inductive Level where
  | mark
  | space
deriving DecidableEq, Repr

/-- The two role strap inputs of a port: whether the first and the second are high (R163). -/
structure Straps where
  firstHigh : Bool
  secondHigh : Bool
deriving DecidableEq, Repr

/-- The commands of the Dalisca 2048. -/
inductive Instr where
  /-- READ_STATUS taken at port `p` is carried out (R169). -/
  | readStatus (p : Port)
  /-- READ_ATTENTION taken at port `p` is carried out (R168). -/
  | readAttention (p : Port)
  /-- SET_ATTENTION_MASK taken at port `p` is carried out (R168). -/
  | setAttentionMask (p : Port)
  /-- CLAIM taken at port `p` is carried out (R155). -/
  | claim (p : Port)
  /-- CLAIM_QUEUED taken at port `p` is carried out (R155). -/
  | claimQueued (p : Port)
  /-- RELEASE taken at port `p` is carried out (R156). -/
  | release (p : Port)
  /-- WITHDRAW taken at port `p` is carried out (R157). -/
  | withdraw (p : Port)
  /-- FORCE_RELEASE taken at port `p` is carried out (R158). -/
  | forceRelease (p : Port)
  /-- READ_LOCKS taken at port `p` is carried out (R161). -/
  | readLocks (p : Port)
  /-- SET_CLOCK taken at port `p` is carried out (R178). -/
  | setClock (p : Port)
  /-- READ_CLOCK taken at port `p` is carried out (R177). -/
  | readClock (p : Port)
  /-- PROVISION taken at port `p` is carried out (R6). -/
  | provision (p : Port)
  /-- SET_TIERS taken at port `p` is carried out (R7). -/
  | setTiers (p : Port)
  /-- SUSPEND taken at port `p` is carried out (R8). -/
  | suspend (p : Port)
  /-- RESUME taken at port `p` is carried out (R8). -/
  | resume (p : Port)
  /-- DISCONNECT taken at port `p` is carried out (R9, R10). -/
  | disconnect (p : Port)
  /-- VACATE taken at port `p` is carried out (R11). -/
  | vacate (p : Port)
  /-- ADD_CHARGE taken at port `p` is carried out (R12). -/
  | addCharge (p : Port)
  /-- REISSUE taken at port `p` is carried out (R13). -/
  | reissue (p : Port)
  /-- READ_SUBSCRIBER taken at port `p` is carried out (R16). -/
  | readSubscriber (p : Port)
  /-- EDIT_SLOT taken at port `p` is carried out (R20). -/
  | editSlot (p : Port)
  /-- COPY_ACTIVE_TO_PENDING taken at port `p` is carried out (R21). -/
  | copyActiveToPending (p : Port)
  /-- SCHEDULE_ACTIVATION taken at port `p` is carried out (R26). -/
  | scheduleActivation (p : Port)
  /-- CANCEL_ACTIVATION taken at port `p` is carried out (R27). -/
  | cancelActivation (p : Port)
  /-- READ_LINEUP taken at port `p` is carried out (R22). -/
  | readLineup (p : Port)
  /-- READ_SLOT_STATE taken at port `p` is carried out (R50). -/
  | readSlotState (p : Port)
  /-- REVERT_SLOT taken at port `p` is carried out (R48). -/
  | revertSlot (p : Port)
  /-- SET_SOURCE taken at port `p` is carried out (R39, R40). -/
  | setSource (p : Port)
  /-- READ_SOURCE taken at port `p` is carried out (R44). -/
  | readSource (p : Port)
  /-- SET_LEG taken at port `p` is carried out (R66, R67). -/
  | setLeg (p : Port)
  /-- START_LEG taken at port `p` is carried out (R68). -/
  | startLeg (p : Port)
  /-- STOP_LEG taken at port `p` is carried out (R68). -/
  | stopLeg (p : Port)
  /-- CLEAR_LEG_COUNTERS taken at port `p` is carried out (R69). -/
  | clearLegCounters (p : Port)
  /-- READ_LEG taken at port `p` is carried out (R71, R88). -/
  | readLeg (p : Port)
  /-- DIRECT taken at port `p` is carried out (R78). -/
  | direct (p : Port)
  /-- READ_DIRECT taken at port `p` is carried out (R80). -/
  | readDirect (p : Port)
  /-- SET_UNIT taken at port `p` is carried out (R91, R92). -/
  | setUnit (p : Port)
  /-- SET_NODE taken at port `p` is carried out (R97). -/
  | setNode (p : Port)
  /-- READ_UNIT taken at port `p` is carried out (R105). -/
  | readUnit (p : Port)
  /-- READ_NODE taken at port `p` is carried out (R105). -/
  | readNode (p : Port)
  /-- ACK_ALARM taken at port `p` is carried out (R114). -/
  | ackAlarm (p : Port)
  /-- READ_ALARMS taken at port `p` is carried out (R116). -/
  | readAlarms (p : Port)
  /-- START_CLOSE taken at port `p` is carried out (R132, R133). -/
  | startClose (p : Port)
  /-- READ_CLOSE_STATUS taken at port `p` is carried out (R143). -/
  | readCloseStatus (p : Port)
  /-- SET_RATE taken at port `p` is carried out (R139). -/
  | setRate (p : Port)
  /-- SET_CREDIT_THRESHOLD taken at port `p` is carried out (R128). -/
  | setCreditThreshold (p : Port)
  /-- READ_JOURNAL taken at port `p` is carried out (R148). -/
  | readJournal (p : Port)
  /-- RELEASE_JOURNAL taken at port `p` is carried out (R149). -/
  | releaseJournal (p : Port)
  /-- SET_JOURNAL_THRESHOLD taken at port `p` is carried out (R151). -/
  | setJournalThreshold (p : Port)
  /-- COLD_START taken at port `p` is carried out (R182). -/
  | coldStart (p : Port)
  /-- A taken request that is no well-formed frame, or has no code of the table, is answered (R167). -/
  | unknownRequest (p : Port)
  /-- Select is released on a complete request frame while port `p` is EXECUTING (R165). -/
  | requestFrameOverrun (p : Port) (frame : List Byte)
  /-- A fetch selection at port `p` in which `clocked` bytes are clocked out after the first (R164, R165). -/
  | fetch (p : Port) (clocked : Nat)
  /-- The presence input of port `p` falls (R166). -/
  | detach (p : Port)
  /-- The presence input of port `p` rises (R166). -/
  | attach (p : Port)
  /-- The reset input is asserted (R179). -/
  | resetAsserted
  /-- Reset is released with these straps and presence inputs; `recordLost` and `lost` say what of the
  table memory the battery did not keep: the shutdown record, and the sectors (R163, R180). -/
  | resetRelease (straps : Vector Straps 4) (present : Vector Bool 4) (recordLost : Bool)
      (lost : List Sector)
  /-- The power-fail warning input is asserted (R179). -/
  | powerFailWarning
  /-- The sealing of table memory has finished (R179). -/
  | safeEntry
  /-- The seconds of the service clock pass 59 (R177). -/
  | minuteBoundary
  /-- The activation sweep visits the drop at its position (R32). -/
  | sweepVisit
  /-- The close walk visits the drop at its position (R134). -/
  | walkVisit
  /-- A reading of the detector of `src`: its level when the validity mark is set, none when it is not (R38). -/
  | detectorReading (src : Source) (level : Option Byte)
  /-- The restore hold-off of `src` expires (R42). -/
  | holdOffExpiry (src : Source)
  /-- The end of the SELECT frame on the matrix link (R52). -/
  | matrixSelectSent
  /-- A frame is received on the matrix link: for each character the samples of the line, 16 per bit
  time, from the change that begins its start bit (R58, R173). -/
  | matrixFrameReceived (chars : List (List Level))
  /-- The 50 ms acknowledgement limit expires (R53). -/
  | matrixAckTimeout
  /-- The poll tick of `leg` expires (R73). -/
  | pollTick (leg : Leg)
  /-- The last stop bit of the frame sent on `leg` ends (R61). -/
  | sendingEnd (leg : Leg)
  /-- The turnaround blanking of `leg` expires (R61). -/
  | blankingExpiry (leg : Leg)
  /-- The receiver of `leg` hunts over these samples, 16 per bit time, and the change that begins the
  start bit comes `micros` microseconds after the end of the last stop bit sent (R58, R62). -/
  | startBitConfirmed (leg : Leg) (micros : Nat) (samples : List Level)
  /-- The reply window of `leg` expires (R62). -/
  | replyWindowExpiry (leg : Leg)
  /-- A character is received on `leg`: the samples of the line, 16 per bit time, from the change that begins
  its start bit or, where that start bit has not been confirmed before, from earlier in the hunt (R58, R63). -/
  | replyCharacterReceived (leg : Leg) (samples : List Level)
  /-- The quiet on `leg` reaches three character times (R63). -/
  | replyQuietEnd (leg : Leg)
  /-- Select is released on a complete request frame at port `p` (R164, R165). -/
  | requestFrameComplete (p : Port) (frame : List Byte)
deriving DecidableEq, Repr

end Sys2Proof
end

