-- ==== Sys2Proof/Decode.lean ====
section
/-!
DEFINITION. The commands that a word of the opcode table's bits spells. The table gives no row any bits:
this part takes its commands on pins, links and timers and has no instruction words. What a station
sends is decoded by `checkFrame` and by each request's own arguments (Machine/Operands.lean).
-/

namespace Sys2Proof

/-- No row of the opcode table gives bits, so no word spells a command. -/
def decodeTableWord (_nbits _w : Nat) : Option Instr := none

end Sys2Proof
end

