-- ==== Sys2Proof/Config.lean ====
section
/-!
DEFINITION. The free values: what the manual leaves open and no definition here fixes. Each is a
constant without a body, so nothing can be proved of its value. But for the layout of the sectors and the
markers of the shutdown record, the first argument is always `State.freeIndex` at the moment the value is drawn, so that two draws are unrelated.
-/

namespace Sys2Proof.Config

/-- The bytes before the sector CRC in a sector of table memory that holds these records: R176 says which records a
sector holds and not how they are laid out (log entry 2). One layout serves every state, so equal records give
equal bytes. -/
opaque sectorBytes {Records : Type} (sector : Nat) (records : Records) : Vector (BitVec 8) 4094

/-- The marker of the shutdown record, VALID or INVALID: R176 names both and gives neither bytes nor a length (log
entry 2). -/
opaque markerBytes (valid : Bool) : List (BitVec 8)

/-- In a SHUTDOWN cut short by reset, whether the shutdown record had been written (R179, log entry 3). -/
opaque cutRecordWritten : Nat → Bool

/-- In a SHUTDOWN cut short by reset, whether the CRC of a sector had been written (R179, log entry 3). -/
opaque cutSectorWritten : Nat → Nat → Bool

/-- In a SHUTDOWN cut short by reset, a sector (taken modulo 512) whose CRC had not been written:
R179 says that step 7 had not finished, so there is one (log entry 3). -/
opaque cutSector : Nat → Nat

/-- In a SHUTDOWN cut short by reset, what stands in place of a CRC that had not been written, where the one that stood
there would agree with the sector, and unless this one would too (R179, log entry 3). -/
opaque cutCrc : Nat → Nat → BitVec 16

/-- The CRC that stands in a sector which the battery lost (R176, log entry 11). -/
opaque lostCrc : Nat → Nat → BitVec 16

end Sys2Proof.Config
end

