-- ==== Sys2Proof/Machine/Crc.lean ====
section
/-!
DEFINITION. A number as bytes, the CRC-16 of a list of bytes, and the CRC of the shutdown record (00_scope.md,
CRC-16; R170, R176).
-/

namespace Sys2Proof.Machine

/-- The low eight bits of a number as a byte. -/
def byte (n : Nat) : Byte := BitVec.ofNat 8 n

/-- A number in `k` bytes, most significant byte first (R170). -/
def beBytes : Nat → Nat → List Byte
  | 0, _ => []
  | k + 1, n => beBytes k (n / 256) ++ [byte n]

/-- One bit through the generator x^16 + x^12 + x^5 + 1. -/
def crcBit (crc : BitVec 16) : BitVec 16 :=
  if crc.msb then (crc <<< 1) ^^^ 0x1021#16 else crc <<< 1

/-- One byte, most significant bit first. -/
def crcByte (crc : BitVec 16) (b : Byte) : BitVec 16 :=
  Nat.repeat crcBit 8 (crc ^^^ (b.zeroExtend 16 <<< 8))

/-- The CRC-16 of a list of bytes: initial value FFFF hex, no final inversion. -/
def crc16 (bs : List Byte) : BitVec 16 := bs.foldl crcByte 0xFFFF#16

/-- The CRC of a shutdown record, over its marker and then its minute, most significant byte first (R170, R176). The
bytes of the marker are free, and the minute after them in four bytes is the model's choice (DESIGN CHOICE, log entry
2). -/
def recordCrc (valid : Bool) (minute : Nat) : BitVec 16 := crc16 (Config.markerBytes valid ++ beBytes 4 minute)

end Sys2Proof.Machine
end

