-- ==== Sys2Proof/Machine/State.lean ====
section
/-!
DEFINITION. The state of the Dalisca 2048 as plain data, block by block as 00_scope.md lists the
blocks, and `State.reset`. What lives in table memory (R176) stands in `TableMemory`; everything else
is held in the controller and starts afresh at every start. Service minutes are natural numbers; a
present or absent minute is an `Option`.
-/

namespace Sys2Proof.Machine

/-- Why a command can stop the machine with a fault. There is no constructor: the spec gives every
command an effect in every state, or says that it is disregarded, so no command faults. -/
inductive Fault
deriving DecidableEq, Repr

/-- Why a command is refused without a meaning. -/
inductive Refusal where
  /-- Raised by `exec` for a command without a meaning in this model. No arm answers it. Safe: nothing is claimed of
  such a step. -/
  | notModelled (mnemonic : String)
deriving DecidableEq, Repr

/-! ## Station ports (12_station_ports_requests_and_frame_formats.md) -/

/-- The role of a port, in the order of R163. -/
inductive Role where
  | manager
  | billing
  | monitor
  | craft
deriving DecidableEq, Repr

/-- The state of a port controller, in the order of R165. -/
inductive PortPhase where
  | detached
  | idle
  | executing
  | replyReady
deriving DecidableEq, Repr

/-- The result codes of R167, in code order. -/
inductive Result where
  | ok
  | started
  | queued
  | badFrame
  | unknownRequest
  | notPermitted
  | badArgument
  | badDigit
  | lockRequired
  | held
  | notHolder
  | busy
  | wrongState
  | journalSpace
  | listFull
  | clockNotSet
  | clockBackward
  | powerFail
  | notReady
  | noReply
  | cycleEmpty
deriving DecidableEq, Repr

/-- A reply as the reply holder keeps it: the status byte and the CRC are made at the fetch (R165). -/
structure Reply where
  tag : Byte
  result : Result
  body : List Byte
deriving DecidableEq, Repr

/-- A request frame that was taken and whose reply has not been placed. -/
structure Taken where
  frame : List Byte
  /-- Cleared when the port is detached: the work is still done and its reply is lost (R166). -/
  live : Bool
  /-- The edit locks the port held when the request was taken: the lock check is made against them (R159). -/
  held : List LockNo
  /-- The model's own: its place in the order in which the waiting requests of all ports were taken (log entry 33). -/
  number : Nat
  /-- The model's own: the reply that waits to be placed, once a detach or a minute boundary has found the work done
  (R28, R160, R166; log entry 33). -/
  done : Option Reply
deriving DecidableEq, Repr

/-- One port controller (R163 to R168). -/
structure PortState where
  role : Role
  phase : PortPhase
  /-- The requests taken and not yet answered, oldest first. -/
  taken : List Taken
  /-- The reply holder. -/
  reply : Option Reply
  overrun : Bool
  /-- The attention flags, in the bits of R170. -/
  flags : Byte
  /-- The attention mask, in the bits of R170. -/
  mask : Byte
  /-- The bytes driven on data out in the port's last selection: all of them in a request selection, and
  from the second byte on in a fetch selection (R164). -/
  dataOut : List Byte
deriving DecidableEq, Repr

/-- One edit lock (R154). -/
structure Lock where
  holder : Option Port
  waiters : List Port
deriving DecidableEq, Repr

/-! ## The subscriber register (01_subscriber_register.md) -/

/-- The state of a subscriber record, in the order of R1. -/
inductive SubState where
  | vacant
  | active
  | suspended
  | disconnected
deriving DecidableEq, Repr

/-- The kind of an open segment, in the order of R1. -/
inductive SegKind where
  | none
  | service
  | outage
deriving DecidableEq, Repr

/-- An open segment (R120). -/
structure Segment where
  start : Option Nat
  kind : SegKind
  tiers : Set8
deriving DecidableEq, Repr

/-- A one-time charge: its code and its amount in 6 BCD digits of cents (R1). -/
structure Charge where
  code : Byte
  amount : BitVec 24
deriving DecidableEq, Repr

/-- A subscriber record (R1). The minute counts hold one count per tier. -/
structure Subscriber where
  state : SubState
  /-- Ten BCD digits. -/
  account : Option (BitVec 40)
  tiers : Option Set8
  /-- The accumulating cycle. -/
  cycle : BitVec 16
  seg : Segment
  service : Vector Nat 8
  credited : Vector Nat 8
  unjudged : Vector Nat 8
  saturated : Bool
  charges : List Charge
deriving DecidableEq, Repr

/-! ## Line-up, slots, sources and matrix (chapters 2 and 3) -/

/-- What an assigned slot carries (R19). -/
structure Program where
  primary : Source
  fallback : Option Source
  tier : Tier
  autoRevert : Bool
  muted : Bool
deriving DecidableEq, Repr

/-- A slot entry: none when the slot is not assigned (R19). -/
abbrev SlotEntry := Option Program

/-- A line-up: 48 slot entries (R19). -/
abbrev LineUp := Vector SlotEntry 48

/-- The compositions of the eight band groups (R23). -/
abbrev Composition := Vector Set8 8

/-- The activation context (R25). -/
inductive Activation where
  | idle
  | scheduled (minute : Nat)
  | deferred (minute : Nat)
  | sweeping (position : Drop) (previous : Composition)
deriving DecidableEq, Repr

/-- The runtime state of a slot, in the order of R45. -/
inductive SlotState where
  | unassigned
  | onPrimary
  | onFallback
  | dark
  | muted
deriving DecidableEq, Repr

/-- What the matrix is known to connect to a slot (R45). -/
inductive Confirmed where
  | absent
  | nothing
  | source (s : Source)
deriving DecidableEq, Repr

/-- The runtime record of a slot (R45). A selected source of none is the selection none. -/
structure SlotRuntime where
  state : SlotState
  selected : Option Source
  confirmed : Confirmed
  attempts : Nat
deriving DecidableEq, Repr

/-- The matrix transaction in flight (R52). -/
structure MatrixTx where
  slot : Slot
  /-- The selection that was sent. -/
  sent : Option Source
  /-- The SELECT frame as sent (R173). -/
  frame : List Byte
  /-- Whether the end of the frame has been reached, so that the 50 ms limit runs. -/
  limitRuns : Bool
deriving DecidableEq, Repr

/-- The Matrix Link Controller (R51, R52). -/
structure Matrix where
  queue : List Slot
  tx : Option MatrixTx
deriving DecidableEq, Repr

/-- The monitor settings of a source (R39). -/
structure SourceSettings where
  monitored : Bool
  threshold : Nat
  hysteresis : Nat
  persistence : Nat
  /-- In seconds. -/
  holdOff : Nat
deriving DecidableEq, Repr

/-- The state of a source, in the order of R41. -/
inductive SourceState where
  | normal
  | lossPending
  | lost
  | restorePending
deriving DecidableEq, Repr

/-- The runtime state of a source (R38, R41, R42, R44). -/
structure SourceRuntime where
  state : SourceState
  belowCount : Nat
  lastReading : Option Nat
  /-- The remaining hold-off in units of 100 ms while one runs. -/
  holdOff : Option Nat
  /-- The held-readings count. -/
  held : Nat
deriving DecidableEq, Repr

/-! ## Plant legs (chapters 4 and 5) -/

/-- The switch and the pass set of a tap port (R14). -/
structure Image where
  on : Bool
  pass : Set8
deriving DecidableEq, Repr

/-- The sixteen images of a unit. -/
abbrev Images := PerPort Image

/-- The line rates of R66, in code order (R170). -/
inductive LineRate where
  | baud9600
  | baud19200
  | baud38400
deriving DecidableEq, Repr

/-- The run state of a leg, in the order of R68. -/
inductive RunState where
  | stopped
  | running
  | stopping
deriving DecidableEq, Repr

/-- The configuration of a leg (R66). The tick is a number of 10 ms steps. -/
structure LegSettings where
  rate : LineRate
  filter : Bool
  blanking : Nat
  window : Nat
  tick : Nat
  missLimit : Nat
  warning : Nat
deriving DecidableEq, Repr

/-- The kinds of frame on a leg, in the order of R56. -/
inductive FrameKind where
  | poll
  | setports
  | range
deriving DecidableEq, Repr

/-- The purpose of a transaction, in the order of R56. -/
inductive Purpose where
  | duePoll
  | order
  | direct
deriving DecidableEq, Repr

/-- The phase of a transaction, in the order of R56. -/
inductive TxPhase where
  | sending
  | blanking
  | window
  | receiving
deriving DecidableEq, Repr

/-- The line-error classes, in the order of R64. -/
inductive LineError where
  | framing
  | parity
  | truncated
  | wrongPartner
  | length
  | crc
  | overrun
deriving DecidableEq, Repr

/-- The outcome of a transaction (R64). -/
inductive LegOutcome where
  | valid
  | silent
  | lineError (c : LineError)
deriving DecidableEq, Repr

/-- A received character with its two marks (R58). -/
structure RxChar where
  data : Byte
  framingFault : Bool
  parityFault : Bool
deriving DecidableEq, Repr

/-- What the receiver of a reply is doing (R58, R63). -/
inductive Receiver where
  /-- A start bit is confirmed and its character is not yet collected. -/
  | character
  /-- Hunting for the next start bit, with the line at mark. -/
  | hunting
  /-- Waiting, after a framing fault, for the line to return to mark. -/
  | waiting
deriving DecidableEq, Repr

/-- A leg transaction in flight (R56). -/
structure Transaction where
  kind : FrameKind
  unit : LegUnit
  purpose : Purpose
  /-- The frame as sent. -/
  frame : List Byte
  /-- The images sent with a SETPORTS (R82). -/
  images : Option Images
  rate : LineRate
  filter : Bool
  blanking : Nat
  window : Nat
  phase : TxPhase
  latency : Option Nat
  /-- The characters of the reply collected so far (R63). -/
  collected : List RxChar
  /-- What the receiver is doing, in RECEIVING (R58, R63). -/
  receiver : Receiver
  /-- The target was uninstalled while the transaction was in flight (R65). -/
  targetGone : Bool
deriving DecidableEq, Repr

/-- What a direct slot holds (R78). -/
structure DirectJob where
  owner : Port
  kind : FrameKind
  unit : LegUnit
deriving DecidableEq, Repr

/-- The result of a direct transaction (R79). `block` is the payload of a VALID reply. -/
structure DirectResult where
  outcome : LegOutcome
  block : List Byte
  latency : Option Nat
deriving DecidableEq, Repr

/-- The direct slot of a leg, in the order of R79. -/
inductive DirectSlot where
  | empty
  | submitted (job : DirectJob)
  | inFlight (job : DirectJob)
  | done (job : DirectJob) (result : DirectResult)
deriving DecidableEq, Repr

/-- The fourteen counters of a leg, in the order of R69; each wraps at 32 bits. -/
structure LegCounters where
  pollsSent : BitVec 32
  ordersSent : BitVec 32
  directSent : BitVec 32
  validReplies : BitVec 32
  silent : BitVec 32
  framing : BitVec 32
  parity : BitVec 32
  truncated : BitVec 32
  length : BitVec 32
  crc : BitVec 32
  overrun : BitVec 32
  wrongPartner : BitVec 32
  promotions : BitVec 32
  skippedPolls : BitVec 32
deriving DecidableEq, Repr

/-- What a leg controller holds outside table memory (R56, R69 to R75, R79). -/
structure LegState where
  tx : Option Transaction
  counters : LegCounters
  /-- The consecutive line-error count (R70). -/
  lineErrors : Nat
  lastLatency : Option Nat
  dueQueue : List LegUnit
  orderQueue : List LegUnit
  promotion : Bool
  pointer : LegUnit
  direct : DirectSlot
  /-- The length of the poll tick interval now running, in 10 ms steps; none while no tick runs (R67, R73). -/
  tickInterval : Option Nat
deriving DecidableEq, Repr

/-! ## The plant map (06_unit_liveness_and_outage_inference.md) -/

/-- The liveness of a unit, in the order of R90. -/
inductive Liveness where
  | unknown
  | alive
  | suspect
  | dead
deriving DecidableEq, Repr

/-- What feeds a unit or a node: a node, or the root of the leg (R90, R96). -/
inductive Feed where
  | node (n : NodeNo)
  | root
deriving DecidableEq, Repr

/-- An entry of the unit table (R90). `feeding` is none exactly when the unit is not installed. -/
structure UnitEntry where
  feeding : Option Feed
  liveness : Liveness
  misses : Nat
  firstMiss : Option Nat
  outageBegan : Option Nat
  images : Option Images
  attempts : Nat
  held : Bool
  /-- The last flags, in the bits of R172. -/
  flags : Byte
  supply : Option Nat
  powerAlarm : Bool
deriving DecidableEq, Repr

/-- The derived fields that nodes and leg roots share (R96). -/
structure Tally where
  units : Nat
  dead : Nat
  out : Bool
  onPowerAlarm : Bool
deriving DecidableEq, Repr

/-- Where an installed node stands (R96). -/
structure NodePlace where
  leg : Leg
  parent : Feed
deriving DecidableEq, Repr

/-- An entry of the node table (R96). `place` is none exactly when the node is not installed. -/
structure NodeEntry where
  place : Option NodePlace
  tally : Tally
deriving DecidableEq, Repr

/-! ## The alarm list (07_the_alarm_list.md) -/

/-- The alarm kinds, in the order of R108. -/
inductive AlarmKind where
  | sourceLoss
  | slotDark
  | slotOnFallback
  | matrixFault
  | mixedGroup
  | unitDead
  | nodeOutage
  | legOutage
  | legNoise
  | unitTamper
  | orderFailed
  | nodePower
  | journalSpace
  | cycleOverdue
  | clockNotSet
  | tableCheck
deriving DecidableEq, Repr

/-- The state of an alarm entry, in the order of R107. -/
inductive AlarmState where
  | activeUnacked
  | activeAcked
  | clearedUnacked
deriving DecidableEq, Repr

/-- An alarm entry (R107). Its severity is fixed by its kind. -/
structure AlarmEntry where
  kind : AlarmKind
  object : Nat
  raised : Option Nat
  cleared : Option Nat
  state : AlarmState
  info : BitVec 16
  bounce : Nat
deriving DecidableEq, Repr

/-- The Alarm List (R107). -/
structure AlarmList where
  entries : List AlarmEntry
  unlisted : Nat
  overflow : Bool
  change : BitVec 16
deriving DecidableEq, Repr

/-! ## Billing (chapters 8 to 10) -/

/-- The close context (R131). -/
structure CloseContext where
  walking : Bool
  closingCycle : BitVec 16
  closingStart : Option Nat
  stamp : Option Nat
  reserved : Nat
  position : Drop
  requester : Option Port
deriving DecidableEq, Repr

/-- The part of the Journal in table memory (R145, R150): the bytes of each record slot as written. -/
structure Journal where
  written : BitVec 32
  released : BitVec 32
  slots : Vector (List Byte) 4096
  threshold : Nat
deriving DecidableEq, Repr

/-! ## Table memory, clock and power (13_table_memory_service_clock_and_start_up.md) -/

/-- The shutdown record: whether its marker is VALID, its minute, and the CRC that stands in it (R176). -/
structure ShutdownRecord where
  valid : Bool
  minute : Nat
  crc : BitVec 16
deriving DecidableEq, Repr

/-- Every record in table memory (R176). The sector CRCs stand beside it, in `State.crcs`. -/
structure TableMemory where
  /-- The shutdown record and the last-known minute: sector 0. -/
  record : ShutdownRecord
  lastKnown : Nat
  /-- The cycle context (R130). -/
  cycleNumber : BitVec 16
  cycleStart : Option Nat
  close : CloseContext
  /-- The current and the next rate table, 8 BCD digits a rate (R139). -/
  currentRates : Vector (BitVec 32) 8
  nextRates : Vector (BitVec 32) 8
  /-- The credit threshold (R128). -/
  creditThreshold : Nat
  journal : Journal
  activation : Activation
  active : LineUp
  pendingLineup : LineUp
  sources : Vector SourceSettings 64
  legs : Vector LegSettings 4
  run : Vector RunState 4
  nodes : Vector NodeEntry 64
  units : Vector UnitEntry 128
  subs : Vector Subscriber 2048
deriving DecidableEq, Repr

/-- The service clock (R177). It is RUNNING exactly when it has a minute. -/
structure Clock where
  minute : Option Nat
  seconds : Nat
  /-- The model's own: tenths of the running second (log entry 5). -/
  tenths : Nat
  holdBack : Nat
deriving DecidableEq, Repr

/-- The state of Power-Fail Control (R179). -/
inductive Power where
  | normal
  | shutdown
  | safe
deriving DecidableEq, Repr

/-- The kind of the last start (R169). -/
inductive StartKind where
  | warm
  | cold
deriving DecidableEq, Repr

/-- The whole controller. -/
structure State where
  table : TableMemory
  /-- The sector CRCs of table memory (R176). -/
  crcs : Vector (BitVec 16) 512
  ports : Vector PortState 4
  locks : Vector Lock 19
  subscriberCount : Nat
  composition : Composition
  slots : Vector SlotRuntime 48
  sources : Vector SourceRuntime 64
  matrix : Matrix
  legs : Vector LegState 4
  roots : Vector Tally 4
  alarms : AlarmList
  spaceLow : Bool
  clock : Clock
  power : Power
  /-- The reset input is asserted (R179). -/
  inReset : Bool
  startKind : StartKind
  /-- The model's own: how many free values have been drawn. -/
  freeIndex : Nat
  /-- The model's own: the commands that wait, first in, first out. -/
  pending : List Instr
deriving DecidableEq, Repr

/-! ## Values after a cold start -/

/-- R17. -/
def Subscriber.cold : Subscriber where
  state := .vacant
  account := none
  tiers := none
  cycle := 0
  seg := { start := none, kind := .none, tiers := 0 }
  service := Vector.replicate 8 0
  credited := Vector.replicate 8 0
  unjudged := Vector.replicate 8 0
  saturated := false
  charges := []

/-- R54. -/
def SourceSettings.cold : SourceSettings where
  monitored := false
  threshold := 0
  hysteresis := 0
  persistence := 1
  holdOff := 0

/-- R54. -/
def SourceRuntime.fresh : SourceRuntime where
  state := .normal
  belowCount := 0
  lastReading := none
  holdOff := none
  held := 0

/-- R55. -/
def SlotRuntime.cold : SlotRuntime where
  state := .unassigned
  selected := none
  confirmed := .absent
  attempts := 0

/-- R66. -/
def LegSettings.cold : LegSettings where
  rate := .baud19200
  filter := true
  blanking := 2
  window := 20
  tick := 50
  missLimit := 3
  warning := 0

/-- R69: the counters are 0 after every start. -/
def LegCounters.zero : LegCounters :=
  { pollsSent := 0, ordersSent := 0, directSent := 0, validReplies := 0, silent := 0, framing := 0,
    parity := 0, truncated := 0, length := 0, crc := 0, overrun := 0, wrongPartner := 0,
    promotions := 0, skippedPolls := 0 }

/-- R72, R89. -/
def LegState.fresh : LegState where
  tx := none
  counters := LegCounters.zero
  lineErrors := 0
  lastLatency := none
  dueQueue := []
  orderQueue := []
  promotion := false
  pointer := 31
  direct := .empty
  tickInterval := none

/-- The values R90 gives for a unit that is not installed. -/
def UnitEntry.uninstalled : UnitEntry where
  feeding := none
  liveness := .unknown
  misses := 0
  firstMiss := none
  outageBegan := none
  images := none
  attempts := 0
  held := false
  flags := 0
  supply := none
  powerAlarm := false

/-- Counts 0, UP and NORMAL (R96, R106). -/
def Tally.zero : Tally where
  units := 0
  dead := 0
  out := false
  onPowerAlarm := false

/-- R96. -/
def NodeEntry.uninstalled : NodeEntry where
  place := none
  tally := Tally.zero

/-- R117. -/
def AlarmList.empty : AlarmList where
  entries := []
  unlisted := 0
  overflow := false
  change := 0

/-- R144. -/
def CloseContext.cold : CloseContext where
  walking := false
  closingCycle := 0
  closingStart := none
  stamp := none
  reserved := 0
  position := 0
  requester := none

/-- R153. That the slots are left without bytes is the model's choice (DESIGN CHOICE, log entry 10). -/
def Journal.cold : Journal where
  written := 0
  released := 0
  slots := Vector.replicate 4096 []
  threshold := 256

/-- A free lock (R162). -/
def Lock.free : Lock where
  holder := none
  waiters := []

/-- The clock while NOT_SET (R177). -/
def Clock.notSet : Clock where
  minute := none
  seconds := 0
  tenths := 0
  holdBack := 0

/-- The cold-start value of every record of table memory (R181). The minute of the INVALID shutdown record is the
model's choice (DESIGN CHOICE, log entry 10). -/
def TableMemory.cold : TableMemory where
  record := { valid := false, minute := 0, crc := recordCrc false 0 }
  lastKnown := 0
  cycleNumber := 0
  cycleStart := none
  close := CloseContext.cold
  currentRates := Vector.replicate 8 0
  nextRates := Vector.replicate 8 0
  creditThreshold := 240
  journal := Journal.cold
  activation := .idle
  active := Vector.replicate 48 none
  pendingLineup := Vector.replicate 48 none
  sources := Vector.replicate 64 SourceSettings.cold
  legs := Vector.replicate 4 LegSettings.cold
  run := Vector.replicate 4 .stopped
  nodes := Vector.replicate 64 NodeEntry.uninstalled
  units := Vector.replicate 128 UnitEntry.uninstalled
  subs := Vector.replicate 2048 Subscriber.cold

/-- The CRC of a spare sector, 4,094 bytes held at zero (R170, R176). -/
def spareCrc : BitVec 16 := 0x19BF

/-- The sector CRCs at `State.reset`: those of the spare sectors agree, and the others, which no start writes, are 0
(DESIGN CHOICE, log entry 1). -/
def resetCrcs : Vector (BitVec 16) 512 := tabulate 512 fun k => if k.val < 362 then 0 else spareCrc

/-- A port whose presence input is low at reset release (R163). -/
def PortState.fresh (role : Role) : PortState where
  role := role
  phase := .detached
  taken := []
  reply := none
  overrun := false
  flags := 0
  mask := 0x7F
  dataOut := []

/-- The role of each port at `State.reset`, where no strap has been sampled (DESIGN CHOICE, log entry 1). -/
def resetRole (p : Port) : Role :=
  match p with
  | 0 => .manager
  | 1 => .billing
  | 2 => .monitor
  | 3 => .craft

/-- An alarm entry raised while the clock is NOT_SET, as a start leaves it (R111, R117). -/
def AlarmEntry.atStart (kind : AlarmKind) (object : Nat) (info : BitVec 16) : AlarmEntry where
  kind := kind
  object := object
  raised := none
  cleared := none
  state := .activeUnacked
  info := info
  bounce := 0

/-- The controller right after a reset release that found no valid shutdown record and made a cold
start (R181), with no station attached. The matrix has already been given the SELECT of slot 0
(R52, R55). -/
def State.reset : State where
  table := TableMemory.cold
  crcs := resetCrcs
  ports := tabulate 4 fun p => PortState.fresh (resetRole p)
  locks := Vector.replicate 19 Lock.free
  subscriberCount := 0
  composition := Vector.replicate 8 0
  slots := Vector.replicate 48 SlotRuntime.cold
  sources := Vector.replicate 64 SourceRuntime.fresh
  matrix :=
    { queue := (List.finRange 48).tail
      tx := some { slot := 0, sent := none, frame := [0x01, 0, 64, 65], limitRuns := false } }
  legs := Vector.replicate 4 LegState.fresh
  roots := Vector.replicate 4 Tally.zero
  alarms :=
    { AlarmList.empty with
      entries := [AlarmEntry.atStart .tableCheck 512 0, AlarmEntry.atStart .clockNotSet 0 0]
      change := 2 }
  spaceLow := false
  clock := Clock.notSet
  power := .normal
  inReset := false
  startKind := .cold
  freeIndex := 0
  pending := []

end Sys2Proof.Machine
end

