-- ==== Sys2Proof/Machine/Codec.lean ====
section
/-!
DEFINITION. Numbers as bytes, packed BCD, the CRC-16, small sets as bits, and the codes of the
capitalised values (R170, R175; 00_scope.md, Money and CRC-16).
-/

namespace Sys2Proof.Machine

/-! ## Bytes -/

/-- The number that bytes spell, most significant byte first (R170). -/
def beNat (bs : List Byte) : Nat := bs.foldl (fun n b => n * 256 + b.toNat) 0

/-- A yes/no field (R170). -/
def yesNo (b : Bool) : List Byte := [if b then 1 else 0]

/-- An identity that may be none or absent, none as FF hex (R170). -/
def identByte (o : Option Nat) : List Byte :=
  [match o with
   | some n => byte n
   | none => 0xFF]

/-- A value of `k` bytes that may be absent: a presence byte, then the value, zeros when absent (R170). -/
def optBytes (k : Nat) (o : Option Nat) : List Byte :=
  match o with
  | some n => 1 :: beBytes k n
  | none => 0 :: beBytes k 0

/-- A list of varying length: its count, then its items (R170). -/
def countedList (items : List (List Byte)) : List Byte := byte items.length :: items.flatten

/-! ## The CRC-16 (00_scope.md, CRC-16; R170) -/

/-- The bytes followed by their CRC, high byte first. -/
def withCrc (bs : List Byte) : List Byte := bs ++ beBytes 2 (crc16 bs).toNat

/-- Whether the last two bytes are the CRC of the bytes before them. -/
def crcGood (bs : List Byte) : Bool :=
  decide (beNat (bs.drop (bs.length - 2)) = (crc16 (bs.take (bs.length - 2))).toNat)

/-! ## Packed BCD (00_scope.md, Money) -/

/-- Whether each of `digits` 4-bit groups is a decimal digit. -/
def isBcd : Nat → Nat → Bool
  | 0, _ => true
  | k + 1, x => decide (x % 16 ≤ 9) && isBcd k (x / 16)

/-- The number that `digits` 4-bit groups spell in decimal. -/
def bcdValue : Nat → Nat → Nat
  | 0, _ => 0
  | k + 1, x => bcdValue k (x / 16) * 10 + x % 16

/-- The last `digits` decimal digits of a number as 4-bit groups. -/
def toBcd : Nat → Nat → Nat
  | 0, _ => 0
  | k + 1, n => toBcd k (n / 10) * 16 + n % 10

/-! ## Sets of tiers and band groups (00_scope.md, Sets) -/

/-- Whether `i` is a member. -/
def Set8.has (x : Set8) (i : Fin 8) : Bool := x.getLsbD i

/-- Whether every member of `x` is a member of `y`. -/
def Set8.within (x y : Set8) : Bool := x &&& ~~~y == 0

/-- The set of the numbers for which `f` holds. -/
def Set8.collect (f : Fin 8 → Bool) : Set8 :=
  (List.finRange 8).foldr (fun i acc => if f i then acc ||| (1#8 <<< i.val) else acc) 0

/-- The number of members. -/
def Set8.size (x : Set8) : Nat := (List.finRange 8).countP fun i => Set8.has x i

/-! ## Codes: the position in the list where the owning rule first names the values (R170) -/

/-- R163. -/
def Role.code : Role → Nat
  | .manager => 0
  | .billing => 1
  | .monitor => 2
  | .craft => 3

/-- R165. -/
def PortPhase.code : PortPhase → Nat
  | .detached => 0
  | .idle => 1
  | .executing => 2
  | .replyReady => 3

/-- R167. -/
def Result.code : Result → Nat
  | .ok => 0
  | .started => 1
  | .queued => 2
  | .badFrame => 3
  | .unknownRequest => 4
  | .notPermitted => 5
  | .badArgument => 6
  | .badDigit => 7
  | .lockRequired => 8
  | .held => 9
  | .notHolder => 10
  | .busy => 11
  | .wrongState => 12
  | .journalSpace => 13
  | .listFull => 14
  | .clockNotSet => 15
  | .clockBackward => 16
  | .powerFail => 17
  | .notReady => 18
  | .noReply => 19
  | .cycleEmpty => 20

/-- R1. -/
def SubState.code : SubState → Nat
  | .vacant => 0
  | .active => 1
  | .suspended => 2
  | .disconnected => 3

/-- R1. -/
def SegKind.code : SegKind → Nat
  | .none => 0
  | .service => 1
  | .outage => 2

/-- R25. -/
def Activation.code : Activation → Nat
  | .idle => 0
  | .scheduled _ => 1
  | .deferred _ => 2
  | .sweeping _ _ => 3

/-- R45. -/
def SlotState.code : SlotState → Nat
  | .unassigned => 0
  | .onPrimary => 1
  | .onFallback => 2
  | .dark => 3
  | .muted => 4

/-- R41. -/
def SourceState.code : SourceState → Nat
  | .normal => 0
  | .lossPending => 1
  | .lost => 2
  | .restorePending => 3

/-- R170: SET_LEG names 9,600 baud as 0, 19,200 as 1 and 38,400 as 2. -/
def LineRate.code : LineRate → Nat
  | .baud9600 => 0
  | .baud19200 => 1
  | .baud38400 => 2

/-- R68. -/
def RunState.code : RunState → Nat
  | .stopped => 0
  | .running => 1
  | .stopping => 2

/-- R170: DIRECT names POLL as 0, SETPORTS as 1 and RANGE as 2. -/
def FrameKind.code : FrameKind → Nat
  | .poll => 0
  | .setports => 1
  | .range => 2

/-- R56 names the purposes in this order without capitals, so R170 gives them no code: that they are coded by their place
is the model's choice (DESIGN CHOICE, log entry 9). -/
def Purpose.code : Purpose → Nat
  | .duePoll => 0
  | .order => 1
  | .direct => 2

/-- R56. -/
def TxPhase.code : TxPhase → Nat
  | .sending => 0
  | .blanking => 1
  | .window => 2
  | .receiving => 3

/-- VALID, SILENT, then the seven classes of R64 in order (DESIGN CHOICE, log entry 9). -/
def LegOutcome.code : LegOutcome → Nat
  | .valid => 0
  | .silent => 1
  | .lineError .framing => 2
  | .lineError .parity => 3
  | .lineError .truncated => 4
  | .lineError .wrongPartner => 5
  | .lineError .length => 6
  | .lineError .crc => 7
  | .lineError .overrun => 8

/-- R79. -/
def DirectSlot.code : DirectSlot → Nat
  | .empty => 0
  | .submitted _ => 1
  | .inFlight _ => 2
  | .done _ _ => 3

/-- R90. -/
def Liveness.code : Liveness → Nat
  | .unknown => 0
  | .alive => 1
  | .suspect => 2
  | .dead => 3

/-- R175: the position in the table of R108. -/
def AlarmKind.code : AlarmKind → Nat
  | .sourceLoss => 0
  | .slotDark => 1
  | .slotOnFallback => 2
  | .matrixFault => 3
  | .mixedGroup => 4
  | .unitDead => 5
  | .nodeOutage => 6
  | .legOutage => 7
  | .legNoise => 8
  | .unitTamper => 9
  | .orderFailed => 10
  | .nodePower => 11
  | .journalSpace => 12
  | .cycleOverdue => 13
  | .clockNotSet => 14
  | .tableCheck => 15

/-- The sixteen alarm kinds in the order of R108. -/
def AlarmKind.all : List AlarmKind :=
  [.sourceLoss, .slotDark, .slotOnFallback, .matrixFault, .mixedGroup, .unitDead, .nodeOutage,
   .legOutage, .legNoise, .unitTamper, .orderFailed, .nodePower, .journalSpace, .cycleOverdue,
   .clockNotSet, .tableCheck]

/-- R175. -/
def AlarmState.code : AlarmState → Nat
  | .activeUnacked => 0
  | .activeAcked => 1
  | .clearedUnacked => 2

/-- R169: WARM or COLD. -/
def StartKind.code : StartKind → Nat
  | .warm => 0
  | .cold => 1

/-- A feeding node or parent: node 0 to 63, the leg root as 64 (R170). -/
def Feed.code : Feed → Nat
  | .node n => n
  | .root => 64

/-! ## Numbering (00_scope.md, Drop, unit and port numbering; R1) -/

/-- The drop address of port `p` of unit `u`. -/
def dropOf (u : UnitNo) (p : TapPort) : Drop := ⟨u.val * 16 + p.val, by omega⟩

/-- The plant-wide number of the tap unit of a drop. -/
def Drop.unit (d : Drop) : UnitNo := ⟨d.val / 16, by omega⟩

/-- The tap port of a drop. -/
def Drop.port (d : Drop) : TapPort := ⟨d.val % 16, by omega⟩

/-- The plant-wide number of unit `u` of leg `l`. -/
def unitOf (l : Leg) (u : LegUnit) : UnitNo := ⟨l.val * 32 + u.val, by omega⟩

/-- The leg of a unit. -/
def UnitNo.leg (u : UnitNo) : Leg := ⟨u.val / 32, by omega⟩

/-- The number of a unit within its leg. -/
def UnitNo.onLeg (u : UnitNo) : LegUnit := ⟨u.val % 32, by omega⟩

/-- The block lock of a drop: 3 + (drop ÷ 128, rounded down) (R4). -/
def Drop.blockLock (d : Drop) : LockNo := ⟨3 + d.val / 128, by omega⟩

/-- The band group of a slot. -/
def Slot.group (i : Slot) : Group := ⟨i.val / 6, by omega⟩

/-- A number as an index below `n`, if it is one. -/
def toFin (n : Nat) (x : Nat) : Option (Fin n) := if h : x < n then some ⟨x, h⟩ else none

/-- The drops whose subscriber records stand in a sector: 16 to a sector from sector 6 on (R176). -/
def sectorDrops (k : Nat) : List Drop := (List.range 16).filterMap fun i => toFin 2048 (16 * (k - 6) + i)

/-- The journal record slots in a sector: 18 to a sector from sector 134 on (R176). -/
def sectorSlots (k : Nat) : List (Fin 4096) :=
  (List.range 18).filterMap fun i => toFin 4096 (18 * (k - 134) + i)

end Sys2Proof.Machine
end

