-- ==== Sys2Proof/Machine/Ops.lean ====
section
/-!
DEFINITION. Reading and writing the pieces of the state: one accessor and one update for each record
of each block. Every other file reads and writes through these.
-/

namespace Sys2Proof.Machine

/-- Port `p`. -/
def State.port (s : State) (p : Port) : PortState := look s.ports p

/-- The state with port `p` replaced. -/
def State.setPort (s : State) (p : Port) (x : PortState) : State := { s with ports := put s.ports p x }

/-- Lock `n`. -/
def State.lock (s : State) (n : LockNo) : Lock := look s.locks n

/-- The state with lock `n` replaced. -/
def State.setLock (s : State) (n : LockNo) (x : Lock) : State := { s with locks := put s.locks n x }

/-- The subscriber record of drop `d` (R1). -/
def State.sub (s : State) (d : Drop) : Subscriber := look s.table.subs d

/-- The state with the subscriber record of drop `d` replaced. -/
def State.setSub (s : State) (d : Drop) (x : Subscriber) : State :=
  { s with table := { s.table with subs := put s.table.subs d x } }

/-- Entry `u` of the unit table (R90). -/
def State.unit (s : State) (u : UnitNo) : UnitEntry := look s.table.units u

/-- The state with entry `u` of the unit table replaced. -/
def State.setUnit (s : State) (u : UnitNo) (x : UnitEntry) : State :=
  { s with table := { s.table with units := put s.table.units u x } }

/-- Entry `n` of the node table (R96). -/
def State.node (s : State) (n : NodeNo) : NodeEntry := look s.table.nodes n

/-- The state with entry `n` of the node table replaced. -/
def State.setNode (s : State) (n : NodeNo) (x : NodeEntry) : State :=
  { s with table := { s.table with nodes := put s.table.nodes n x } }

/-- The root of leg `l` (R96). -/
def State.root (s : State) (l : Leg) : Tally := look s.roots l

/-- The state with the root of leg `l` replaced. -/
def State.setRoot (s : State) (l : Leg) (x : Tally) : State := { s with roots := put s.roots l x }

/-- The runtime record of slot `i` (R45). -/
def State.slot (s : State) (i : Slot) : SlotRuntime := look s.slots i

/-- The state with the runtime record of slot `i` replaced. -/
def State.setSlot (s : State) (i : Slot) (x : SlotRuntime) : State := { s with slots := put s.slots i x }

/-- The runtime state of source `k` (R41). -/
def State.source (s : State) (k : Source) : SourceRuntime := look s.sources k

/-- The state with the runtime state of source `k` replaced. -/
def State.setSource (s : State) (k : Source) (x : SourceRuntime) : State :=
  { s with sources := put s.sources k x }

/-- The monitor settings of source `k` (R39). -/
def State.monitor (s : State) (k : Source) : SourceSettings := look s.table.sources k

/-- The state with the monitor settings of source `k` replaced. -/
def State.setMonitor (s : State) (k : Source) (x : SourceSettings) : State :=
  { s with table := { s.table with sources := put s.table.sources k x } }

/-- Leg controller `l`. -/
def State.leg (s : State) (l : Leg) : LegState := look s.legs l

/-- The state with leg controller `l` replaced. -/
def State.setLeg (s : State) (l : Leg) (x : LegState) : State := { s with legs := put s.legs l x }

/-- The configuration of leg `l` (R66). -/
def State.legSettings (s : State) (l : Leg) : LegSettings := look s.table.legs l

/-- The state with the configuration of leg `l` replaced. -/
def State.setLegSettings (s : State) (l : Leg) (x : LegSettings) : State :=
  { s with table := { s.table with legs := put s.table.legs l x } }

/-- The run state of leg `l` (R68). -/
def State.run (s : State) (l : Leg) : RunState := look s.table.run l

/-- The state with the run state of leg `l` replaced. -/
def State.setRun (s : State) (l : Leg) (x : RunState) : State :=
  { s with table := { s.table with run := put s.table.run l x } }

/-- The state with table memory replaced. -/
def State.setTable (s : State) (x : TableMemory) : State := { s with table := x }

/-- The state with the activation context replaced (R25). -/
def State.setActivation (s : State) (x : Activation) : State :=
  { s with table := { s.table with activation := x } }

/-- The state with the close context replaced (R131). -/
def State.setClose (s : State) (x : CloseContext) : State :=
  { s with table := { s.table with close := x } }

/-- The state with the Journal replaced (R145). -/
def State.setJournal (s : State) (x : Journal) : State :=
  { s with table := { s.table with journal := x } }

/-- The state with the subscriber count replaced (R2). -/
def State.setCount (s : State) (n : Nat) : State := { s with subscriberCount := n }

/-- The state with the compositions replaced (R23). -/
def State.setComposition (s : State) (x : Composition) : State := { s with composition := x }

/-- The state with the Matrix Link Controller replaced (R51, R52). -/
def State.setMatrix (s : State) (x : Matrix) : State := { s with matrix := x }

/-- The state with the Alarm List replaced (R107). -/
def State.setAlarms (s : State) (x : AlarmList) : State := { s with alarms := x }

/-- The state with the space low condition replaced (R150). -/
def State.setSpaceLow (s : State) (x : Bool) : State := { s with spaceLow := x }

/-- The state with the service clock replaced (R177). -/
def State.setClock (s : State) (x : Clock) : State := { s with clock := x }

/-- The state with the sector CRCs replaced (R176). -/
def State.setCrcs (s : State) (x : Vector (BitVec 16) 512) : State := { s with crcs := x }

/-- The state with the last-known minute replaced (R176). -/
def State.setLastKnown (s : State) (n : Nat) : State := { s with table := { s.table with lastKnown := n } }

/-- The state with Power-Fail Control in another state (R179). -/
def State.setPower (s : State) (x : Power) : State := { s with power := x }

/-- The current service minute, absent while the service clock is NOT_SET (R177). -/
def State.now (s : State) : Option Nat := s.clock.minute

/-- Whether a unit is installed (R90). -/
def State.installed (s : State) (u : UnitNo) : Bool := (s.unit u).feeding.isSome

/-- Whether a unit is DEAD (R90). -/
def State.isDead (s : State) (u : UnitNo) : Bool := decide ((s.unit u).liveness = .dead)

/-- The commands that happen only while the reset input is not asserted: with it asserted, the
controller stands still (R179; 13.6; log entry 4). -/
def outOfReset (f : State → State) (s : State) : State := if s.inReset then s else f s

/-- Applies an operation for each item in turn, first item first. -/
def forEach {α : Type} (items : List α) (f : State → α → State) (s : State) : State :=
  items.foldl f s

end Sys2Proof.Machine
end

