-- ==== Sys2Proof/Machine/Flags.lean ====
section
/-!
DEFINITION. The attention flags of the ports (R168) and the Alarm List: raising, clearing, eviction
and telling the stations (07_the_alarm_list.md).
-/

namespace Sys2Proof.Machine

/-! ## Attention (R168, R170) -/

/-- The seven attention flags, in the bits of R170. -/
inductive Flag where
  | alarm
  | lock
  | activation
  | close
  | direct
  | journal
  | clock
deriving DecidableEq, Repr

/-- The flag as a set of one (R170). -/
def Flag.bit : Flag → Byte
  | .alarm => 0x01
  | .lock => 0x02
  | .activation => 0x04
  | .close => 0x08
  | .direct => 0x10
  | .journal => 0x20
  | .clock => 0x40

/-- All seven flags. -/
def allFlags : Byte := 0x7F

/-- Whether the port is not DETACHED. -/
def PortState.attached (x : PortState) : Bool := decide (x.phase ≠ .detached)

/-- Sets an attention flag; a flag set for a DETACHED port is not set (R166). -/
def PortState.raise (f : Flag) (x : PortState) : PortState :=
  if x.attached then { x with flags := x.flags ||| f.bit } else x

/-- Whether a flag that the mask allows is set (R165, R168). -/
def PortState.attentionPending (x : PortState) : Bool := decide (x.flags &&& x.mask ≠ 0)

/-- The attention output: active while the port is not DETACHED and an allowed flag is set (R168);
every output is inactive while reset is asserted (13.6). -/
def State.attentionOutput (s : State) (p : Port) : Bool :=
  !s.inReset && (s.port p).attached && (s.port p).attentionPending

/-- Sets a flag on one port. -/
def State.flag (s : State) (f : Flag) (p : Port) : State := s.setPort p ((s.port p).raise f)

/-- Sets a flag on every attached port for which `who` holds. -/
def State.flagAll (s : State) (f : Flag) (who : PortState → Bool) : State :=
  { s with
    ports := tabulate 4 fun p => if who (s.port p) then (s.port p).raise f else s.port p }

/-- Sets a flag on every attached port of a role (R168). -/
def State.flagRole (s : State) (f : Flag) (r : Role) : State :=
  s.flagAll f fun x => decide (x.role = r)

/-! ## The Alarm List -/

/-- The severities, ranked CRITICAL 2 above MAJOR 1 above MINOR 0 (R108). -/
def AlarmKind.rank : AlarmKind → Nat
  | .sourceLoss => 1
  | .slotDark => 2
  | .slotOnFallback => 0
  | .matrixFault => 1
  | .mixedGroup => 0
  | .unitDead => 1
  | .nodeOutage => 2
  | .legOutage => 2
  | .legNoise => 1
  | .unitTamper => 1
  | .orderFailed => 1
  | .nodePower => 0
  | .journalSpace => 1
  | .cycleOverdue => 0
  | .clockNotSet => 1
  | .tableCheck => 2

/-- The severity code: CRITICAL 0, MAJOR 1, MINOR 2 (R175). -/
def AlarmKind.severityCode (k : AlarmKind) : Nat := 2 - k.rank

/-- One more than the largest object number of the kind (R108). -/
def AlarmKind.objects : AlarmKind → Nat
  | .sourceLoss => 64
  | .slotDark => 48
  | .slotOnFallback => 48
  | .matrixFault => 48
  | .mixedGroup => 8
  | .unitDead => 128
  | .nodeOutage => 64
  | .legOutage => 4
  | .legNoise => 4
  | .unitTamper => 128
  | .orderFailed => 128
  | .nodePower => 68
  | .journalSpace => 1
  | .cycleOverdue => 1
  | .clockNotSet => 1
  | .tableCheck => 513

/-- Whether an entry has the key (R107). -/
def AlarmEntry.hasKey (k : AlarmKind) (o : Nat) (e : AlarmEntry) : Bool :=
  decide (e.kind = k ∧ e.object = o)

/-- The entry with the key, if it is listed. -/
def AlarmList.find (a : AlarmList) (k : AlarmKind) (o : Nat) : Option AlarmEntry :=
  a.entries.find? (AlarmEntry.hasKey k o)

/-- The most entries the list holds (R107). -/
def alarmRoom : Nat := 64

/-- What a raise makes of an entry that has its key (R110). -/
def AlarmEntry.reraise (stamp : Option Nat) (info : BitVec 16) (e : AlarmEntry) : AlarmEntry :=
  match e.state with
  | .activeUnacked => { e with info := info }
  | .activeAcked => { e with info := info }
  | .clearedUnacked =>
    { e with
      state := .activeUnacked
      bounce := min 255 (e.bounce + 1)
      raised := stamp
      cleared := none
      info := info }

/-- A new entry (R111). -/
def AlarmEntry.new (stamp : Option Nat) (k : AlarmKind) (o : Nat) (info : BitVec 16) : AlarmEntry where
  kind := k
  object := o
  raised := stamp
  cleared := none
  state := .activeUnacked
  info := info
  bounce := 0

/-- The place of the entry that a full list gives up for a raise of kind `k`: the oldest cleared entry,
failing that the oldest acknowledged entry of lower severity (R111). -/
def evicted (k : AlarmKind) (es : List AlarmEntry) : Option Nat :=
  match es.findIdx? fun e => decide (e.state = .clearedUnacked) with
  | some i => some i
  | none => es.findIdx? fun e => decide (e.state = .activeAcked ∧ e.kind.rank < k.rank)

/-- A raise (R110 to R112). -/
def AlarmList.raise (a : AlarmList) (stamp : Option Nat) (k : AlarmKind) (o : Nat)
    (info : BitVec 16) : AlarmList :=
  if a.entries.any (AlarmEntry.hasKey k o) then
    { a with
      entries := a.entries.map fun e => if e.hasKey k o then e.reraise stamp info else e }
  else if a.entries.length < alarmRoom then
    { a with entries := a.entries ++ [AlarmEntry.new stamp k o info] }
  else
    match evicted k a.entries with
    | some i => { a with entries := a.entries.eraseIdx i ++ [AlarmEntry.new stamp k o info] }
    | none => { a with unlisted := min 65535 (a.unlisted + 1), overflow := true }

/-- What a clear makes of an entry that has its key; none when it is removed (R113). -/
def AlarmEntry.clear (stamp : Option Nat) (e : AlarmEntry) : Option AlarmEntry :=
  match e.state with
  | .activeUnacked => some { e with state := .clearedUnacked, cleared := stamp }
  | .activeAcked => none
  | .clearedUnacked => some e

/-- A clear (R113). -/
def AlarmList.clear (a : AlarmList) (stamp : Option Nat) (k : AlarmKind) (o : Nat) : AlarmList :=
  { a with entries := a.entries.filterMap fun e => if e.hasKey k o then e.clear stamp else some e }

/-- What an acknowledgement makes of an entry; none when it is removed (R114). -/
def AlarmEntry.ack (e : AlarmEntry) : Option AlarmEntry :=
  match e.state with
  | .activeUnacked => some { e with state := .activeAcked }
  | .activeAcked => some e
  | .clearedUnacked => none

/-- An acknowledgement of a listed key (R114). -/
def AlarmList.ack (a : AlarmList) (k : AlarmKind) (o : Nat) : AlarmList :=
  { a with entries := a.entries.filterMap fun e => if e.hasKey k o then e.ack else some e }

/-- Whether an entry, or the unlisted count, differs: what makes a raise or a clear a change (R115). -/
def AlarmList.changed (a b : AlarmList) : Bool :=
  decide (a.entries ≠ b.entries ∨ a.unlisted ≠ b.unlisted)

/-- Puts a new Alarm List in force. A change of the list raises the change number by one and sets ALARM
on every port that is not DETACHED (R115). -/
def State.withAlarms (s : State) (a : AlarmList) : State :=
  if s.alarms.changed a then
    (s.setAlarms { a with change := a.change + 1 }).flagAll .alarm fun _ => true
  else s.setAlarms a

/-- A raise, stamped with the current service minute or absent (R109). -/
def State.raise (s : State) (k : AlarmKind) (o : Nat) (info : BitVec 16) : State :=
  s.withAlarms (s.alarms.raise s.now k o info)

/-- A clear, stamped with the current service minute or absent (R109). -/
def State.clear (s : State) (k : AlarmKind) (o : Nat) : State :=
  s.withAlarms (s.alarms.clear s.now k o)

/-- An acknowledgement: a change of the list exactly when it removes the entry (R114, R115; log entry 15). -/
def State.ackAlarm (s : State) (k : AlarmKind) (o : Nat) : State :=
  let a := s.alarms.ack k o
  if a.entries.length < s.alarms.entries.length then s.withAlarms a else s.setAlarms a

/-- Raises or clears as the condition says. -/
def State.alarmWhile (s : State) (stands : Bool) (k : AlarmKind) (o : Nat) (info : BitVec 16) : State :=
  if stands then s.raise k o info else s.clear k o

/-- Clears every entry of a kind that stands, in list order (R182 and the chapters it names). -/
def State.clearKind (s : State) (k : AlarmKind) : State :=
  forEach ((s.alarms.entries.filter fun e => decide (e.kind = k)).map AlarmEntry.object)
    (fun s o => s.clear k o) s

end Sys2Proof.Machine
end

