-- ==== Sys2Proof/Machine/Operands.lean ====
section
/-!
DEFINITION. Station frames and the course of a request: the request table (R171), the checks every
request passes in order (R167), the arguments in a request's body (R170), and the reply.
-/

namespace Sys2Proof.Machine

/-! ## The request table (R171) -/

/-- The lock a request needs (R159). -/
inductive Need where
  | nothing
  | lock (n : LockNo)
  /-- The block lock of the drop named. -/
  | block
  /-- All 19 locks. -/
  | all
deriving DecidableEq, Repr

/-- A row of the request table. -/
structure Row where
  code : Nat
  roles : List Role
  need : Need
  /-- The only body length the request accepts. -/
  body : Nat
deriving DecidableEq, Repr

/-- Every role. -/
def everyone : List Role := [.manager, .billing, .monitor, .craft]

/-- READ_STATUS. -/
def Row.readStatus : Row := ⟨0x01, everyone, .nothing, 0⟩

/-- READ_ATTENTION. -/
def Row.readAttention : Row := ⟨0x02, everyone, .nothing, 0⟩

/-- SET_ATTENTION_MASK. -/
def Row.setAttentionMask : Row := ⟨0x03, everyone, .nothing, 1⟩

/-- CLAIM. -/
def Row.claim : Row := ⟨0x04, everyone, .nothing, 1⟩

/-- CLAIM_QUEUED. -/
def Row.claimQueued : Row := ⟨0x05, everyone, .nothing, 1⟩

/-- RELEASE. -/
def Row.release : Row := ⟨0x06, everyone, .nothing, 1⟩

/-- WITHDRAW. -/
def Row.withdraw : Row := ⟨0x07, everyone, .nothing, 1⟩

/-- FORCE_RELEASE. -/
def Row.forceRelease : Row := ⟨0x08, [.manager], .nothing, 1⟩

/-- READ_LOCKS. -/
def Row.readLocks : Row := ⟨0x09, everyone, .nothing, 0⟩

/-- SET_CLOCK. -/
def Row.setClock : Row := ⟨0x0A, [.manager], .nothing, 4⟩

/-- READ_CLOCK. -/
def Row.readClock : Row := ⟨0x0B, everyone, .nothing, 0⟩

/-- PROVISION. -/
def Row.provision : Row := ⟨0x0C, [.manager], .block, 8⟩

/-- SET_TIERS. -/
def Row.setTiers : Row := ⟨0x0D, [.manager], .block, 3⟩

/-- SUSPEND. -/
def Row.suspend : Row := ⟨0x0E, [.manager, .billing], .block, 2⟩

/-- RESUME. -/
def Row.resume : Row := ⟨0x0F, [.manager, .billing], .block, 2⟩

/-- DISCONNECT. -/
def Row.disconnect : Row := ⟨0x10, [.manager], .block, 2⟩

/-- VACATE. -/
def Row.vacate : Row := ⟨0x11, [.manager], .block, 2⟩

/-- ADD_CHARGE. -/
def Row.addCharge : Row := ⟨0x12, [.manager, .billing], .block, 6⟩

/-- REISSUE. -/
def Row.reissue : Row := ⟨0x13, [.manager, .craft], .nothing, 1⟩

/-- READ_SUBSCRIBER. -/
def Row.readSubscriber : Row := ⟨0x14, everyone, .nothing, 2⟩

/-- EDIT_SLOT. -/
def Row.editSlot : Row := ⟨0x15, [.manager], (.lock 0), 7⟩

/-- COPY_ACTIVE_TO_PENDING. -/
def Row.copyActiveToPending : Row := ⟨0x16, [.manager], (.lock 0), 0⟩

/-- SCHEDULE_ACTIVATION. -/
def Row.scheduleActivation : Row := ⟨0x17, [.manager], (.lock 0), 5⟩

/-- CANCEL_ACTIVATION. -/
def Row.cancelActivation : Row := ⟨0x18, [.manager], (.lock 0), 0⟩

/-- READ_LINEUP. -/
def Row.readLineup : Row := ⟨0x19, everyone, .nothing, 1⟩

/-- READ_SLOT_STATE. -/
def Row.readSlotState : Row := ⟨0x1A, everyone, .nothing, 0⟩

/-- REVERT_SLOT. -/
def Row.revertSlot : Row := ⟨0x1B, [.manager, .monitor], .nothing, 1⟩

/-- SET_SOURCE. -/
def Row.setSource : Row := ⟨0x1C, [.manager, .monitor], .nothing, 6⟩

/-- READ_SOURCE. -/
def Row.readSource : Row := ⟨0x1D, everyone, .nothing, 2⟩

/-- SET_LEG. -/
def Row.setLeg : Row := ⟨0x1E, [.manager, .craft], .nothing, 9⟩

/-- START_LEG. -/
def Row.startLeg : Row := ⟨0x1F, [.manager, .craft], .nothing, 1⟩

/-- STOP_LEG. -/
def Row.stopLeg : Row := ⟨0x20, [.manager, .craft], .nothing, 1⟩

/-- CLEAR_LEG_COUNTERS. -/
def Row.clearLegCounters : Row := ⟨0x21, [.manager, .craft], .nothing, 1⟩

/-- READ_LEG. -/
def Row.readLeg : Row := ⟨0x22, everyone, .nothing, 1⟩

/-- DIRECT. -/
def Row.direct : Row := ⟨0x23, [.monitor, .craft], .nothing, 3⟩

/-- READ_DIRECT. -/
def Row.readDirect : Row := ⟨0x24, everyone, .nothing, 1⟩

/-- SET_UNIT. -/
def Row.setUnit : Row := ⟨0x25, [.manager], (.lock 2), 3⟩

/-- SET_NODE. -/
def Row.setNode : Row := ⟨0x26, [.manager], (.lock 2), 4⟩

/-- READ_UNIT. -/
def Row.readUnit : Row := ⟨0x27, everyone, .nothing, 1⟩

/-- READ_NODE. -/
def Row.readNode : Row := ⟨0x28, everyone, .nothing, 1⟩

/-- ACK_ALARM. -/
def Row.ackAlarm : Row := ⟨0x29, [.manager, .monitor, .craft], .nothing, 3⟩

/-- READ_ALARMS. -/
def Row.readAlarms : Row := ⟨0x2A, everyone, .nothing, 2⟩

/-- START_CLOSE. -/
def Row.startClose : Row := ⟨0x2B, [.billing, .manager], .nothing, 0⟩

/-- READ_CLOSE_STATUS. -/
def Row.readCloseStatus : Row := ⟨0x2C, everyone, .nothing, 0⟩

/-- SET_RATE. -/
def Row.setRate : Row := ⟨0x2D, [.billing], (.lock 1), 5⟩

/-- SET_CREDIT_THRESHOLD. -/
def Row.setCreditThreshold : Row := ⟨0x2E, [.billing], .nothing, 2⟩

/-- READ_JOURNAL. -/
def Row.readJournal : Row := ⟨0x2F, [.billing], .nothing, 4⟩

/-- RELEASE_JOURNAL. -/
def Row.releaseJournal : Row := ⟨0x30, [.billing], .nothing, 4⟩

/-- SET_JOURNAL_THRESHOLD. -/
def Row.setJournalThreshold : Row := ⟨0x31, [.billing], .nothing, 2⟩

/-- COLD_START. -/
def Row.coldStart : Row := ⟨0x32, [.manager], .all, 0⟩

/-- The request codes of R171. -/
def knownCode (c : Nat) : Bool := decide (1 ≤ c ∧ c ≤ 0x32)

/-! ## Request frames (R170) -/

/-- What steps 1 and 2 of R167 find in a frame. -/
inductive FrameCheck where
  | badFrame
  | unknown
  | request (code : Nat)
deriving DecidableEq, Repr

/-- Steps 1 and 2 of R167. -/
def checkFrame (frame : List Byte) : FrameCheck :=
  match frame with
  | code :: _ :: len :: _ =>
    if frame.length = 5 + len.toNat ∧ crcGood frame then
      if knownCode code.toNat then .request code.toNat else .unknown
    else .badFrame
  | _ => .badFrame

/-- The tag received; for a frame of fewer than two bytes it is 0 (R167). -/
def frameTag (frame : List Byte) : Byte :=
  match frame with
  | _ :: tag :: _ => tag
  | _ => 0

/-- The body of a request frame: what stands between its heading and its CRC. -/
def frameBody (frame : List Byte) : List Byte := (frame.drop 3).take (frame.length - 5)

/-- The request frame with a code, a tag and a body. -/
def requestFrame (code : Nat) (tag : Byte) (body : List Byte) : List Byte :=
  withCrc (byte code :: tag :: byte body.length :: body)

/-- The number in `n` bytes of a body from offset `i`. -/
def field (body : List Byte) (i n : Nat) : Nat := beNat ((body.drop i).take n)

/-- A one-byte yes/no argument: yes when it is not 00 hex (R167). -/
def flagArg (body : List Byte) (i : Nat) : Bool := decide (field body i 1 ≠ 0)

/-- The drop a subscriber request names; none for a body too short to carry it or a drop above 2047. -/
def dropArg (body : List Byte) : Option Drop :=
  if body.length < 2 then none else toFin 2048 (field body 0 2)

/-! ## Replies -/

/-- What the work of a request comes to: its result, its reply body and the state after it. -/
structure Answer where
  result : Result
  body : List Byte
  state : State

/-- A reply with a body. -/
def answer (r : Result) (body : List Byte) (s : State) : Answer := ⟨r, body, s⟩

/-- A refusal: an empty body, and nothing in the controller changes (R167). -/
def refuse (r : Result) (s : State) : Answer := ⟨r, [], s⟩

/-- The status byte: bit 0 the overrun flag, bit 1 attention pending (R170). -/
def PortState.status (x : PortState) : Byte :=
  (if x.overrun then 0x01#8 else 0) ||| (if x.attentionPending then 0x02#8 else 0)

/-- The reply frame given at a fetch (R170). -/
def replyFrame (r : Reply) (status : Byte) : List Byte :=
  withCrc ([r.tag, byte r.result.code, status] ++ beBytes 2 r.body.length ++ r.body)

/-- The reply that an answer makes to the request it answers: the tag is the one received (R167). -/
def Answer.replyTo (a : Answer) (t : Taken) : Reply := ⟨frameTag t.frame, a.result, a.body⟩

/-- Takes the oldest request off port `p` and places its reply; the reply is lost when the port was
detached after the request was taken (R165, R166). -/
def State.placeReply (s : State) (p : Port) (live : Bool) (r : Reply) : State :=
  let x := s.port p
  s.setPort p
    (if live then { x with taken := x.taken.tail, phase := .replyReady, reply := some r }
     else { x with taken := x.taken.tail })

/-! ## The checks of R167 -/

/-- Whether port `p` holds lock `n`. -/
def State.holds (s : State) (p : Port) (n : LockNo) : Bool := decide ((s.lock n).holder = some p)

/-- The locks port `p` holds, ascending. -/
def State.heldBy (s : State) (p : Port) : List LockNo := (List.finRange 19).filter (s.holds p)

/-- Step 4: the lock, against the locks the port held when the request was taken (R159, R4). -/
def lockCheck (need : Need) (held : List LockNo) (body : List Byte) : Option Result :=
  match need with
  | .nothing => none
  | .lock n => if n ∈ held then none else some .lockRequired
  | .block =>
    match dropArg body with
    | none => some .badArgument
    | some d => if Drop.blockLock d ∈ held then none else some .lockRequired
  | .all => if (List.finRange 19).all fun n => decide (n ∈ held) then none else some .lockRequired

/-- Steps 0, 3, 4 and the length of step 5, in order; the first that fails gives the result. `held` are the
locks the port held when the request was taken. -/
def requestCheck (row : Row) (p : Port) (held : List LockNo) (body : List Byte) (s : State) :
    Option Result :=
  if s.power ≠ .normal then some .powerFail
  else if (s.port p).role ∉ row.roles then some .notPermitted
  else
    match lockCheck row.need held body with
    | some r => some r
    | none => if body.length = row.body then none else some .badArgument

/-- The checks of a request, and its work where they pass (R167). -/
def State.answerTo (s : State) (row : Row) (work : Port → List Byte → State → Answer) (p : Port) (t : Taken) :
    Answer :=
  match requestCheck row p t.held (frameBody t.frame) s with
  | some r => refuse r s
  | none => work p (frameBody t.frame) s

/-- Whether no request whose work waits at any port was taken before this one (log entry 33). -/
def State.isOldest (s : State) (t : Taken) : Bool :=
  (List.finRange 4).all fun q => (s.port q).taken.all fun u => u.done.isSome || decide (t.number ≤ u.number)

/-- The oldest request of a port whose work waits to be done. -/
def PortState.waiting (x : PortState) : Option Taken := x.taken.find? fun t => t.done.isNone

/-- Carries out the oldest request taken at port `p`, if it is the request of this row and no request taken before it
waits at any port: the checks, then its work, then its reply (R167). Requests are carried out in the order in which
they were taken (R155 to R160; DEDUCED, log entry 33); of one whose work was done before a detach or a minute boundary,
the reply that it made then is placed. The body of a read shows the controller at this moment (DESIGN
CHOICE, log entry 34). The row of another request is an event that does not occur, and leaves the state as it is (log
entry 6). -/
def carryOut (row : Row) (work : Port → List Byte → State → Answer) (p : Port) (s : State) : State :=
  match (s.port p).taken with
  | [] => s
  | t :: _ =>
    if checkFrame t.frame = .request row.code then
      match t.done with
      | some r => s.placeReply p t.live r
      | none =>
        if s.isOldest t then
          let a := s.answerTo row work p t
          a.state.placeReply p t.live (a.replyTo t)
        else s
    else s

/-- Whether a port is attached. -/
def State.attached (s : State) (p : Port) : Bool := (s.port p).attached

/-- Whether the request whose work is being done at a port is one that its station can still gain by: the port has
not been detached since the request was taken, even if it is attached again (log entry 7). -/
def State.served (s : State) (p : Port) : Bool :=
  s.attached p &&
    match (s.port p).waiting with
    | none => false
    | some t => t.live

end Sys2Proof.Machine
end

