-- ==== Sys2Proof/Machine/Images.lean ====
section
/-!
DEFINITION. The band-group composition (R23), the desired image of a drop (R14), the delivered tier
set (R118), and the evaluation of a unit for its order queue (R15, R76).
-/

namespace Sys2Proof.Machine

/-- The tier of a slot entry as a set of at most one. -/
def entryTier (e : SlotEntry) : Set8 :=
  match e with
  | some g => 1#8 <<< g.tier.val
  | none => 0

/-- Slot `k` of band group `g`: slot 6g + k. -/
def groupSlot (g : Group) (k : Fin 6) : Slot := ⟨g.val * 6 + k.val, by omega⟩

/-- The composition of band group `g`: the tiers of its assigned slots (R23). -/
def groupTiers (lineup : LineUp) (g : Group) : Set8 :=
  (List.finRange 6).foldl (fun acc k => acc ||| entryTier (look lineup (groupSlot g k))) 0

/-- The compositions of the eight band groups (R23). -/
def compositionOf (lineup : LineUp) : Composition := tabulate 8 (groupTiers lineup)

/-- Whether a group is mixed: its composition holds more than one tier (R23). -/
def mixedGroup (comp : Composition) (g : Group) : Bool := decide (1 < Set8.size (look comp g))

/-- Whether group `g` passes for the authorized tiers `a`: its composition is not empty and within `a` (R14). -/
def groupPasses (comp : Composition) (a : Set8) (g : Group) : Bool :=
  decide (look comp g ≠ 0) && Set8.within (look comp g) a

/-- The image with the switch off. -/
def Image.off : Image := { on := false, pass := 0 }

/-- The desired image of a drop with this record (R14). -/
def desiredImage (comp : Composition) (x : Subscriber) : Image :=
  match x.state with
  | .active => { on := true, pass := Set8.collect (groupPasses comp (x.tiers.getD 0)) }
  | _ => Image.off

/-- Whether tier `t` is delivered through the pass set `pass`: some group carries it, and every group
that carries it is passed (R118). -/
def tierDelivered (comp : Composition) (pass : Set8) (t : Tier) : Bool :=
  (List.finRange 8).any (fun g => Set8.has (look comp g) t) &&
    (List.finRange 8).all fun g => !Set8.has (look comp g) t || Set8.has pass g

/-- The delivered tier set of a drop with this record and this confirmed image of its port (R118). -/
def deliveredSet (comp : Composition) (x : Subscriber) (confirmed : Option Image) : Set8 :=
  match x.state, confirmed with
  | .active, some img =>
    if img.on then
      Set8.collect fun t => Set8.has (x.tiers.getD 0) t && tierDelivered comp img.pass t
    else 0
  | _, _ => 0

/-- The confirmed image of a drop's port, absent while its unit has no confirmed images (R1). -/
def State.confirmedImage (s : State) (d : Drop) : Option Image :=
  (s.unit (Drop.unit d)).images.map fun im => look im (Drop.port d)

/-- The desired image of a drop as it stands. -/
def State.desired (s : State) (d : Drop) : Image := desiredImage s.composition (s.sub d)

/-- The desired images of the sixteen drops of a unit, port 0 first. -/
def State.desiredImages (s : State) (u : UnitNo) : Images := tabulate 16 fun p => s.desired (dropOf u p)

/-- The delivered tier set of a drop as it stands (R118). -/
def State.deliveredNow (s : State) (d : Drop) : Set8 :=
  deliveredSet s.composition (s.sub d) (s.confirmedImage d)

/-- The ports whose images differ, as a set of ports (R170). -/
def differingPorts (x y : Images) : BitVec 16 :=
  (List.finRange 16).foldr
    (fun p acc => if look x p ≠ look y p then acc ||| (1#16 <<< p.val) else acc) 0

/-- Whether some port's desired image differs from its confirmed image, or the unit has no confirmed
images (R15, R76). -/
def State.needsOrder (s : State) (u : UnitNo) : Bool :=
  match (s.unit u).images with
  | none => true
  | some im => (List.finRange 16).any fun p => decide (s.desired (dropOf u p) ≠ look im p)

/-- Evaluates a unit for its leg's order queue: it joins the tail when it is installed, not held, not
queued, and needs an order (R15, R76). -/
def State.evaluateOrder (s : State) (u : UnitNo) : State :=
  let g := s.leg (UnitNo.leg u)
  if s.installed u && !(s.unit u).held && decide (UnitNo.onLeg u ∉ g.orderQueue) && s.needsOrder u then
    s.setLeg (UnitNo.leg u) { g with orderQueue := g.orderQueue ++ [UnitNo.onLeg u] }
  else s

/-- Clears a unit's order held: attempts 0, held clear, ORDER_FAILED cleared (steps 1 and 2 of R87). -/
def State.dropHold (s : State) (u : UnitNo) : State :=
  (s.setUnit u { s.unit u with attempts := 0, held := false }).clear .orderFailed u.val

/-- Clears a unit's order held and evaluates the unit for the order queue (R87). -/
def State.clearHeld (s : State) (u : UnitNo) : State := (s.dropHold u).evaluateOrder u

/-- The two bytes of a port image (R172). -/
def Image.bytes (x : Image) : List Byte := [if x.on then 0x80 else 0x00, x.pass]

/-- The 32 bytes of sixteen images, port 0 first (R172). -/
def imagesBytes (im : Images) : List Byte := ((List.finRange 16).map fun p => (look im p).bytes).flatten

/-- The image of tap port `p` in the 32 bytes of sixteen images: bits 0 to 6 of the first byte are
disregarded (R172). -/
def imageAt (bs : List Byte) (p : TapPort) : Image :=
  { on := (bs.getD (2 * p.val) 0).msb, pass := bs.getD (2 * p.val + 1) 0 }

/-- The sixteen images that 32 bytes spell (R172). -/
def imagesOf (bs : List Byte) : Images := tabulate 16 (imageAt bs)

end Sys2Proof.Machine
end

