-- ==== Sys2Proof/Machine/Line.lean ====
section
/-!
DEFINITION. The receiver of a line: sampling, the noise filter, start hunting and confirmation, and
characters with their marks (R57, R58). The matrix link uses the same characters (R173).
-/

namespace Sys2Proof.Machine

/-- The noise filter: a new level is taken only when two consecutive samples agree on it (R58). `before`
is the sample before the list and `taken` the level taken last. -/
def quieten : Level → Level → List Level → List Level
  | _, _, [] => []
  | before, taken, x :: xs =>
    let l := if x = before then x else taken
    l :: quieten x l xs

/-- Where the hunt for a start bit stands (R58). -/
inductive Hunt where
  /-- The line has been at space since hunting began: no start until it has returned to mark. -/
  | waitingForMark
  /-- The line is at mark. -/
  | hunting
  /-- A change to space was seen, and this many samples were taken from it on. -/
  | changed (n : Nat)
  /-- The start bit is confirmed. -/
  | confirmed
deriving DecidableEq, Repr

/-- One level taken by the hunt: half a bit time after the change, at the eighth sample, the level must
still be space (R58). -/
def huntStep (h : Hunt) (l : Level) : Hunt :=
  match h, l with
  | .waitingForMark, .mark => .hunting
  | .waitingForMark, .space => .waitingForMark
  | .hunting, .mark => .hunting
  | .hunting, .space => .changed 1
  | .changed n, l => if n < 7 then .changed (n + 1) else if l = .space then .confirmed else .hunting
  | .confirmed, _ => .confirmed

/-- Whether the receiver confirms a start bit in these samples, taken from the moment it begins to hunt. With the
noise filter on, the first sample is the level that the filter holds when hunting begins (DEDUCED, log entry 14). -/
def startConfirmed (filter : Bool) (samples : List Level) : Bool :=
  let levels :=
    if filter then
      match samples with
      | [] => []
      | x :: xs => x :: quieten x x xs
    else samples
  decide (levels.foldl huntStep .waitingForMark = .confirmed)

/-- The level at the middle of bit `k` of a character, the start bit being bit 0: mark past the end. -/
def middleOf (levels : List Level) (k : Nat) : Level := levels.getD (16 * k + 7) .mark

/-- The eight data bits, least significant bit first; mark is a one (PRESUMED, log entry 8). -/
def dataBits (levels : List Level) : Byte :=
  (List.range 8).foldr
    (fun i acc => if middleOf levels (i + 1) = .mark then acc ||| (1#8 <<< i) else acc) 0

/-- The number of ones among the data bits and the parity bit. -/
def onesOf (levels : List Level) : Nat :=
  (List.range 9).countP fun i => decide (middleOf levels (i + 1) = .mark)

/-- The character whose start bit begins with the first of these levels: its data, a framing fault when the
stop bit is space, a parity fault when the ones are even (R57, R58). -/
def characterOf (levels : List Level) : RxChar where
  data := dataBits levels
  framingFault := decide (middleOf levels 10 = .space)
  parityFault := decide (onesOf levels % 2 = 0)

/-- The hunt over levels from a state of it: where it stands at the confirmation of a start bit or at the end
of the levels, and the levels from the last change to space on. A glitch is discarded and the hunt resumes
(R58). -/
def huntOver (h : Hunt) (change : List Level) : List Level → Hunt × List Level
  | [] => (h, change)
  | l :: ls =>
    let h' := huntStep h l
    let change := if h' = .changed 1 then l :: ls else change
    if h' = .confirmed then (h', change) else huntOver h' change ls

/-- What the receiver takes the line to be before the samples of a character, and where its hunt stands. -/
def Receiver.level (r : Receiver) : Level :=
  match r with
  | .character => .mark
  | .hunting => .mark
  | .waiting => .space

/-- Where the hunt of a receiver stands. The samples of a character whose start bit is confirmed begin with
its change, so the hunt runs over it again. -/
def Receiver.hunt (r : Receiver) : Hunt :=
  match r with
  | .character => .hunting
  | .hunting => .hunting
  | .waiting => .waitingForMark

/-- What the receiver does after a hunt that came to this without a character taken. -/
def Hunt.receiver (h : Hunt) : Receiver :=
  match h with
  | .waitingForMark => .waiting
  | .hunting => .hunting
  | .changed _ => .hunting
  | .confirmed => .character

/-- The hunt of a receiver over samples of the line. -/
def Receiver.heard (r : Receiver) (filter : Bool) (samples : List Level) : Hunt × List Level :=
  huntOver r.hunt [] (if filter then quieten r.level r.level samples else samples)

/-- The character that a receiver takes from samples of the line, if a start bit is confirmed in them: at the
eighth sample after the change the level must still be space (R58). -/
def Receiver.take (r : Receiver) (filter : Bool) (samples : List Level) : Option RxChar :=
  let x := r.heard filter samples
  if x.1 = .confirmed then some (characterOf x.2) else none

/-- What a receiver that is not in a character does after samples in which it took none. -/
def Receiver.after (r : Receiver) (filter : Bool) (samples : List Level) : Receiver :=
  match r with
  | .character => .character
  | _ => (r.heard filter samples).1.receiver

/-- The character in samples that follow an idle line. -/
def takeCharacter (filter : Bool) (samples : List Level) : Option RxChar := Receiver.hunting.take filter samples

/-- What the receiver does after a character: a framing fault makes it wait for mark (R58). -/
def RxChar.next (c : RxChar) : Receiver := if c.framingFault then .waiting else .hunting

/-- The samples of a clean character: start, data least significant bit first, odd parity, stop (R57). -/
def cleanSamples (b : Byte) : List Level :=
  let bits := (List.range 8).map fun i => b.getLsbD i
  let odd := decide ((bits.countP id) % 2 = 0)
  ((false :: bits) ++ [odd, true]).flatMap fun one =>
    List.replicate 16 (if one then Level.mark else Level.space)

end Sys2Proof.Machine
end

