-- ==== Sys2Proof/Machine/Matrix.lean ====
section
/-!
DEFINITION. The Matrix Link Controller: the matrix queue, SELECT transactions and their ends
(R51 to R53, R173).
-/

namespace Sys2Proof.Machine

/-- A selection on the matrix link: source 0 to 63, or 64 for none (R173). -/
def selectionCode (sel : Option Source) : Nat :=
  match sel with
  | some k => k
  | none => 64

/-- The SELECT frame of a slot and a selection (R173). -/
def selectFrame (i : Slot) (sel : Option Source) : List Byte :=
  let b := [0x01#8, byte i, byte (selectionCode sel)]
  b ++ [b.foldl (· ^^^ ·) 0]

/-- A slot joins the tail of the matrix queue unless it already stands there (R51). -/
def State.joinMatrix (s : State) (i : Slot) : State :=
  if i ∈ s.matrix.queue then s
  else s.setMatrix { s.matrix with queue := s.matrix.queue ++ [i] }

/-- Starts the transaction of the slot at the head of the queue when no transaction is in flight; the
controller begins none in SHUTDOWN and SAFE (R52, R179). -/
def State.startMatrix (s : State) : State :=
  match s.matrix.tx, s.matrix.queue, s.power with
  | none, i :: rest, .normal =>
    let sel := (s.slot i).selected
    s.setMatrix
      { queue := rest
        tx := some { slot := i, sent := sel, frame := selectFrame i sel, limitRuns := false } }
  | _, _, _ => s

/-- The confirmed source that a selection becomes (R53). -/
def confirmedOf (sel : Option Source) : Confirmed :=
  match sel with
  | some k => .source k
  | none => .nothing

/-- A matching ACK (R53). -/
def State.matrixMatched (s : State) (i : Slot) : State :=
  (s.setSlot i { s.slot i with confirmed := confirmedOf (s.slot i).selected, attempts := 0 }).clear
    .matrixFault i.val

/-- A failed attempt of a transaction for slot `i` that sent `sent` (R53). -/
def State.matrixFailed (s : State) (i : Slot) (sent : Option Source) : State :=
  let n := min 3 ((s.slot i).attempts + 1)
  if n < 3 then (s.setSlot i { s.slot i with attempts := n }).joinMatrix i
  else
    let s := s.setSlot i { s.slot i with attempts := 3, confirmed := .absent }
    (s.setMatrix { s.matrix with queue := s.matrix.queue.filter (· ≠ i) }).raise .matrixFault i.val
      (BitVec.ofNat 16 (selectionCode sent))

/-- Ends the transaction in flight with the ACK received, or with none, and starts the next (R53). -/
def State.endMatrix (s : State) (ack : Option (Nat × Nat)) : State :=
  match s.matrix.tx with
  | none => s
  | some tx =>
    let s := s.setMatrix { s.matrix with tx := none }
    let s :=
      if ack = some (tx.slot.val, selectionCode (s.slot tx.slot).selected) then
        s.matrixMatched tx.slot
      else s.matrixFailed tx.slot tx.sent
    s.startMatrix

/-- The slot and the source of a well-formed ACK (R173). -/
def ackOf (chars : List RxChar) : Option (Nat × Nat) :=
  match chars with
  | [k, i, src, chk] =>
    if chars.all (fun c => !c.framingFault && !c.parityFault) && decide (k.data = 0x02) &&
        decide (i.data.toNat ≤ 47) && decide (src.data.toNat ≤ 64) &&
        decide (chk.data = k.data ^^^ i.data ^^^ src.data) then
      some (i.data.toNat, src.data.toNat)
    else none
  | _ => none

/-- MATRIX_SELECT_SENT: the end of the SELECT frame starts the 50 ms limit (R52). -/
def matrixSelectSent (s : State) : State :=
  match s.matrix.tx with
  | some tx => s.setMatrix { s.matrix with tx := some { tx with limitRuns := true } }
  | none => s.startMatrix

/-- MATRIX_FRAME_RECEIVED: a glitch is no character of the frame (R58); a well-formed ACK ends the transaction in
flight; every other frame, and an ACK with no transaction in flight, is discarded (R53, R173). -/
def matrixFrameReceived (chars : List (List Level)) (s : State) : State :=
  match ackOf (chars.filterMap (takeCharacter true)) with
  | some a => s.endMatrix (some a)
  | none => s

/-- MATRIX_ACK_TIMEOUT: the limit, once it runs, expires and the transaction ends unanswered (R53). -/
def matrixAckTimeout (s : State) : State :=
  match s.matrix.tx with
  | some tx => if tx.limitRuns then s.endMatrix none else s
  | none => s

/-- R52. -/
def execMatrixSelectSent (s : State) : Host.Outcome State Fault Refusal :=
  .next (outOfReset matrixSelectSent s)

/-- R53, R173. -/
def execMatrixFrameReceived (chars : List (List Level)) (s : State) :
    Host.Outcome State Fault Refusal :=
  .next (outOfReset (matrixFrameReceived chars) s)

/-- R53. -/
def execMatrixAckTimeout (s : State) : Host.Outcome State Fault Refusal :=
  .next (outOfReset matrixAckTimeout s)

end Sys2Proof.Machine
end

