-- ==== Sys2Proof/Machine/Sources.lean ====
section
/-!
DEFINITION. The Source Monitor and the slot runtime state: readings, monitor settings, source states,
hold-offs, the derivation of a slot's state, fallback and return (R38 to R50).
-/

namespace Sys2Proof.Machine

/-! ## Slot runtime state (R45 to R49) -/

/-- Whether a source is present: NORMAL, LOSS_PENDING or RESTORE_PENDING (R41). -/
def State.sourcePresent (s : State) (k : Source) : Bool := decide ((s.source k).state ≠ .lost)

/-- Whether an optional source is one and is present. -/
def State.somePresent (s : State) (k : Option Source) : Bool :=
  match k with
  | some k => s.sourcePresent k
  | none => false

/-- Primary if present, else fallback if there is one and it is present, else dark (cases 5 and 6 of R46). -/
def State.lightSlot (s : State) (g : Program) : SlotState :=
  if s.sourcePresent g.primary then .onPrimary
  else if s.somePresent g.fallback then .onFallback
  else .dark

/-- The runtime state of a slot with this entry, after the state `before`, or derived from no previous
state (R46). -/
def State.deriveSlot (s : State) (e : SlotEntry) (before : Option SlotState) : SlotState :=
  match e with
  | none => .unassigned
  | some g =>
    if g.muted then .muted
    else if before = some .onFallback then
      if s.somePresent g.fallback then
        if (s.source g.primary).state = .normal ∧ g.autoRevert then .onPrimary else .onFallback
      else if s.sourcePresent g.primary then .onPrimary
      else .dark
    else s.lightSlot g

/-- The selected source that follows from a slot's state (R45). -/
def selectedOf (e : SlotEntry) (x : SlotState) : Option Source :=
  match e, x with
  | some g, .onPrimary => some g.primary
  | some g, .onFallback => g.fallback
  | _, _ => none

/-- The primary source of an entry as a number. -/
def primaryInfo (e : SlotEntry) : BitVec 16 :=
  match e with
  | some g => BitVec.ofNat 16 g.primary.val
  | none => 0

/-- The fallback source of an entry as a number. -/
def fallbackInfo (e : SlotEntry) : BitVec 16 :=
  match e with
  | some { fallback := some k, .. } => BitVec.ofNat 16 k.val
  | _ => 0

/-- The slot alarms of a change of state: the clears of what is left, then the raise of what is entered (R49). -/
def State.slotAlarms (s : State) (i : Slot) (before after : SlotState) : State :=
  let e := look s.table.active i
  let s := if before = .dark ∧ after ≠ .dark then s.clear .slotDark i.val else s
  let s := if before = .onFallback ∧ after ≠ .onFallback then s.clear .slotOnFallback i.val else s
  if before ≠ .dark ∧ after = .dark then s.raise .slotDark i.val (primaryInfo e)
  else if before ≠ .onFallback ∧ after = .onFallback then
    s.raise .slotOnFallback i.val (fallbackInfo e)
  else s

/-- Puts a slot in a runtime state: its selection follows, it joins the matrix queue when its selection
changed, and its alarms follow when its state changed (R45, R47). -/
def State.enterSlot (s : State) (i : Slot) (after : SlotState) : State :=
  let x := s.slot i
  let sel := selectedOf (look s.table.active i) after
  let s := s.setSlot i { x with state := after, selected := sel }
  let s := if sel ≠ x.selected then s.joinMatrix i else s
  if after ≠ x.state then s.slotAlarms i x.state after else s

/-- Recomputes the runtime state of a slot from its state before (R46, R47). -/
def State.recomputeSlot (s : State) (i : Slot) : State :=
  s.enterSlot i (s.deriveSlot (look s.table.active i) (some (s.slot i).state))

/-- Whether an entry names a source as its primary or fallback. -/
def entryNames (e : SlotEntry) (k : Source) : Bool :=
  match e with
  | some g => decide (g.primary = k ∨ g.fallback = some k)
  | none => false

/-- The slots of the active line-up that name a source, ascending. -/
def State.slotsNaming (s : State) (k : Source) : List Slot :=
  (List.finRange 48).filter fun i => entryNames (look s.table.active i) k

/-! ## Source states (R41 to R43) -/

/-- The last valid reading as an alarm info. -/
def State.readingInfo (s : State) (k : Source) : BitVec 16 :=
  BitVec.ofNat 16 ((s.source k).lastReading.getD 0)

/-- The consequences of a change of a source's state from `before`: the slots that name it are recomputed,
and SOURCE_LOSS is raised or cleared (R43). -/
def State.sourceChanged (s : State) (k : Source) (before : SourceState) : State :=
  let after := (s.source k).state
  if after = before then s
  else
    let s := forEach (s.slotsNaming k) State.recomputeSlot s
    if after = .lost ∧ (before = .normal ∨ before = .lossPending) then
      if s.slotsNaming k ≠ [] then s.raise .sourceLoss k.val (s.readingInfo k) else s
    else if after = .normal then s.clear .sourceLoss k.val
    else s

/-- Puts a source in a new runtime state, with the consequences. -/
def State.updateSource (s : State) (k : Source) (x : SourceRuntime) : State :=
  (s.setSource k x).sourceChanged k (s.source k).state

/-- The restore level: threshold plus hysteresis, capped at 255 (R39). -/
def SourceSettings.restoreLevel (m : SourceSettings) : Nat := min 255 (m.threshold + m.hysteresis)

/-- Entering LOST sets the below-count to 0 (R41). -/
def SourceRuntime.lose (x : SourceRuntime) : SourceRuntime :=
  { x with state := .lost, belowCount := 0, holdOff := none }

/-- A valid reading of a monitored source, already stored as the last reading (R41). -/
def SourceRuntime.apply (m : SourceSettings) (x : SourceRuntime) (level : Nat) : SourceRuntime :=
  let low := decide (level < m.threshold)
  let atRestore := decide (m.restoreLevel ≤ level)
  match x.state with
  | .normal =>
    if low then
      if m.persistence = 1 then x.lose else { x with state := .lossPending, belowCount := 1 }
    else x
  | .lossPending =>
    if low then
      if m.persistence ≤ x.belowCount + 1 then x.lose
      else { x with belowCount := x.belowCount + 1 }
    else { x with state := .normal, belowCount := 0 }
  | .lost =>
    if atRestore then
      if m.holdOff = 0 then { x with state := .normal }
      else { x with state := .restorePending, holdOff := some (m.holdOff * 10) }
    else x
  | .restorePending => if atRestore then x else x.lose

/-- DETECTOR_READING (R38). From SHUTDOWN on, no reading is applied and none is counted as held. -/
def detectorReading (k : Source) (level : Option Byte) (s : State) : State :=
  if s.power ≠ .normal then s
  else
    let x := s.source k
    let m := s.monitor k
    match level with
    | none => s.setSource k { x with held := min 255 (x.held + 1) }
    | some v =>
      let x := { x with lastReading := some v.toNat }
      if m.monitored then (s.updateSource k (x.apply m v.toNat)).startMatrix else s.setSource k x

/-- HOLD_OFF_EXPIRY: a source whose hold-off runs becomes NORMAL with below-count 0 (R42). -/
def holdOffExpiry (k : Source) (s : State) : State :=
  let x := s.source k
  if x.state = .restorePending ∧ x.holdOff.isSome then
    (s.updateSource k { x with state := .normal, belowCount := 0, holdOff := none }).startMatrix
  else s

/-! ## Requests -/

/-- The persistence stored for an argument (R39). -/
def storedPersistence (n : Nat) : Nat :=
  if n ≤ 1 then 1 else if n = 2 then 2 else if n ≤ 4 then 4 else 8

/-- The five settings as a reply carries them (R39). -/
def SourceSettings.bytes (m : SourceSettings) : List Byte :=
  yesNo m.monitored ++ [byte m.threshold, byte m.hysteresis, byte m.persistence, byte m.holdOff]

/-- The settings that a SET_SOURCE body stores, clamped (R39). -/
def settingsArg (b : List Byte) : SourceSettings where
  monitored := flagArg b 1
  threshold := field b 2 1
  hysteresis := min 15 (field b 3 1)
  persistence := storedPersistence (field b 4 1)
  holdOff := field b 5 1

/-- SET_SOURCE(source, monitored, threshold, hysteresis, persistence, hold-off) (R39, R40). -/
def setSource (_ : Port) (b : List Byte) (s : State) : Answer :=
  match toFin 64 (field b 0 1) with
  | none => refuse .badArgument s
  | some k =>
    let m := settingsArg b
    let x := s.source k
    let was := (s.monitor k).monitored
    let s := s.setMonitor k m
    let s :=
      if was && !m.monitored then
        (s.updateSource k { x with state := .normal, belowCount := 0, holdOff := none }).startMatrix
      else if !was && m.monitored then s.setSource k { x with belowCount := 0 }
      else s
    answer .ok m.bytes s

/-- The hold-off remaining in units of 100 ms, 0 when none runs (R44). -/
def SourceRuntime.remaining (x : SourceRuntime) : Nat := x.holdOff.getD 0

/-- READ_SOURCE(source, clear-held) (R44). -/
def readSource (_ : Port) (b : List Byte) (s : State) : Answer :=
  match toFin 64 (field b 0 1) with
  | none => refuse .badArgument s
  | some k =>
    let x := s.source k
    answer .ok
      ((s.monitor k).bytes ++ [byte x.state.code, byte x.belowCount] ++ optBytes 1 x.lastReading ++
        beBytes 2 x.remaining ++ [byte x.held] ++
        countedList ((s.slotsNaming k).map fun i => [byte i.val]))
      (if flagArg b 1 then s.setSource k { x with held := 0 } else s)

/-- REVERT_SLOT(slot) (R48). -/
def revertSlot (_ : Port) (b : List Byte) (s : State) : Answer :=
  match toFin 48 (field b 0 1) with
  | none => refuse .badArgument s
  | some i =>
    match (s.slot i).state, look s.table.active i with
    | .onFallback, some g =>
      if (s.source g.primary).state = .normal then
        answer .ok [] (s.enterSlot i .onPrimary).startMatrix
      else refuse .wrongState s
    | _, _ => refuse .wrongState s

/-- A matrix-confirmed source in READ_SLOT_STATE: 64 for none, FF hex for absent (R170). -/
def Confirmed.byte : Confirmed → Byte
  | .absent => 0xFF
  | .nothing => 64
  | .source k => Machine.byte k.val

/-- A slot's runtime record in READ_SLOT_STATE (R50). -/
def SlotRuntime.bytes (x : SlotRuntime) : List Byte :=
  [byte x.state.code] ++ identByte (x.selected.map Fin.val) ++ [x.confirmed.byte, byte x.attempts] ++
    yesNo (decide (x.attempts = 3))

/-- The matrix link in READ_SLOT_STATE: the queue, then the slot in flight and its selection (R50). The two bytes are
always there: with no transaction in flight both are FF hex, where R50 says only that the slot and the selection are
given if there is one (DESIGN CHOICE, log entry 9). -/
def Matrix.bytes (m : Matrix) : List Byte :=
  countedList (m.queue.map fun i => [byte i.val]) ++
    identByte (m.tx.map fun t => t.slot.val) ++
    identByte (m.tx.bind fun t => t.sent.map Fin.val)

/-- READ_SLOT_STATE (R50). -/
def readSlotState (_ : Port) (_ : List Byte) (s : State) : Answer :=
  answer .ok (((List.finRange 48).flatMap fun i => (s.slot i).bytes) ++ s.matrix.bytes) s

/-! ## Meanings -/

/-- R38, R41, R43. -/
def execDetectorReading (k : Source) (level : Option Byte) (s : State) :
    Host.Outcome State Fault Refusal :=
  .next (outOfReset (detectorReading k level) s)

/-- R42. -/
def execHoldOffExpiry (k : Source) (s : State) : Host.Outcome State Fault Refusal :=
  .next (outOfReset (holdOffExpiry k) s)

/-- R39, R40. -/
def execSetSource (p : Port) (s : State) : Host.Outcome State Fault Refusal :=
  .next (outOfReset (carryOut Row.setSource setSource p) s)

/-- R44. -/
def execReadSource (p : Port) (s : State) : Host.Outcome State Fault Refusal :=
  .next (outOfReset (carryOut Row.readSource readSource p) s)

/-- R48. -/
def execRevertSlot (p : Port) (s : State) : Host.Outcome State Fault Refusal :=
  .next (outOfReset (carryOut Row.revertSlot revertSlot p) s)

/-- R50. -/
def execReadSlotState (p : Port) (s : State) : Host.Outcome State Fault Refusal :=
  .next (outOfReset (carryOut Row.readSlotState readSlotState p) s)

end Sys2Proof.Machine
end

