-- ==== Sys2Proof/Machine/Journal.lean ====
section
/-!
DEFINITION. The charge arithmetic and the Journal: tier lines, totals and record bytes (R136, R141,
R142, R147, R174), the ring, its space alarm, and the journal requests (R145 to R153).
-/

namespace Sys2Proof.Machine

/-! ## Tier lines and totals (R141, R142) -/

/-- The limit at which a total saturates: ten nines of cents (R142). -/
def moneyLimit : Nat := 9999999999

/-- A product in millionths, rounded half up to the cent (R141). -/
def roundCents (p : Nat) : Nat := (p + 5000) / 10000

/-- A tier line (R141). -/
structure TierLine where
  tier : Tier
  service : Nat
  credited : Nat
  rate : BitVec 32
  charge : Nat
  credit : Nat
deriving DecidableEq, Repr

/-- The line of a tier with rate `r`, service minutes `s` and credited minutes `c` (R141). -/
def tierLine (t : Tier) (r : BitVec 32) (s c : Nat) : TierLine where
  tier := t
  service := s
  credited := c
  rate := r
  charge := roundCents (bcdValue 8 r.toNat * s)
  credit := roundCents (bcdValue 8 r.toNat * c)

/-- The lines of a record, in ascending tier order; a tier with both counts 0 has none (R141). -/
def tierLines (rates : Vector (BitVec 32) 8) (x : Subscriber) : List TierLine :=
  ((List.finRange 8).filter fun t => decide (0 < look x.service t ∨ 0 < look x.credited t)).map
    fun t => tierLine t (look rates t) (look x.service t) (look x.credited t)

/-- A closed billing record, but for its sequence number and its CRC (R147). -/
structure BillRecord where
  /-- CYCLE, or FINAL. -/
  isCycle : Bool
  saturated : Bool
  outageOpen : Bool
  early : Bool
  drop : Drop
  account : BitVec 40
  state : SubState
  cycle : BitVec 16
  periodStart : Nat
  periodEnd : Nat
  lines : List TierLine
  charges : List Charge
deriving DecidableEq, Repr

/-- The sum of the line charges and the one-time charges, before it saturates (R142). -/
def BillRecord.rawTotal (r : BillRecord) : Nat :=
  (r.lines.map TierLine.charge).sum + (r.charges.map fun c => bcdValue 6 c.amount.toNat).sum

/-- The sum of the line credits, before it saturates (R142). -/
def BillRecord.rawCredit (r : BillRecord) : Nat := (r.lines.map TierLine.credit).sum

/-- The total (R142). -/
def BillRecord.total (r : BillRecord) : Nat := min moneyLimit r.rawTotal

/-- The credit total (R142). -/
def BillRecord.creditTotal (r : BillRecord) : Nat := min moneyLimit r.rawCredit

/-- OVERFLOW: a sum is above the limit (R142). -/
def BillRecord.overflow (r : BillRecord) : Bool :=
  decide (moneyLimit < r.rawTotal ∨ moneyLimit < r.rawCredit)

/-! ## Record layout (R174) -/

/-- A tier line in 21 bytes. -/
def TierLine.bytes (l : TierLine) : List Byte :=
  [byte l.tier.val] ++ beBytes 3 (toBcd 6 l.service) ++ beBytes 3 (toBcd 6 l.credited) ++
    beBytes 4 l.rate.toNat ++ beBytes 5 (toBcd 10 l.charge) ++ beBytes 5 (toBcd 10 l.credit)

/-- A one-time charge in 4 bytes. -/
def Charge.bytes (c : Charge) : List Byte := c.code :: beBytes 3 c.amount.toNat

/-- The flags byte: bit 0 OVERFLOW, bit 1 SATURATED, bit 2 OUTAGE_OPEN, bit 3 EARLY. -/
def BillRecord.flags (r : BillRecord) : Byte :=
  (if r.overflow then 0x01#8 else 0) ||| (if r.saturated then 0x02#8 else 0) |||
    (if r.outageOpen then 0x04#8 else 0) ||| (if r.early then 0x08#8 else 0)

/-- The record's bytes up to its CRC. -/
def BillRecord.content (r : BillRecord) (sequence : BitVec 32) : List Byte :=
  beBytes 4 sequence.toNat ++ [if r.isCycle then 0x01 else 0x02, r.flags] ++ beBytes 2 r.drop.val ++
    beBytes 5 r.account.toNat ++ [byte r.state.code] ++ beBytes 2 r.cycle.toNat ++
    beBytes 4 r.periodStart ++ beBytes 4 r.periodEnd ++
    [byte r.lines.length, byte r.charges.length] ++ r.lines.flatMap TierLine.bytes ++
    r.charges.flatMap Charge.bytes ++ beBytes 5 (toBcd 10 r.total) ++
    beBytes 5 (toBcd 10 r.creditTotal)

/-- The record's bytes as stored, its CRC included (R146). -/
def BillRecord.bytes (r : BillRecord) (sequence : BitVec 32) : List Byte := withCrc (r.content sequence)

/-! ## The ring (R145) -/

/-- The slot of a sequence number: sequence mod 4,096. -/
def journalSlot (sequence : BitVec 32) : Fin 4096 := ⟨sequence.toNat % 4096, by omega⟩

/-- held: (written − released) mod 4,294,967,296. -/
def Journal.held (j : Journal) : Nat := (j.written - j.released).toNat

/-- free: 4,096 − held. -/
def Journal.free (j : Journal) : Nat := 4096 - j.held

/-- Whether a sequence number is held. -/
def Journal.holds (j : Journal) (sequence : BitVec 32) : Bool :=
  decide ((sequence - j.released).toNat < j.held)

/-- margin: free − reserved. -/
def State.margin (s : State) : Nat := s.table.journal.free - s.table.close.reserved

/-! ## Space (R150) -/

/-- Re-evaluates the space condition; JOURNAL_SPACE follows its changes (R150). -/
def State.evaluateSpace (s : State) : State :=
  let low := decide (s.margin < s.table.journal.threshold)
  if low = s.spaceLow then s
  else
    (s.setSpaceLow low).alarmWhile low .journalSpace 0 (BitVec.ofNat 16 s.margin)

/-- Writes a record into the ring: sequence number, CRC, slot, written; a CYCLE record takes one reserved
slot; then the space condition and JOURNAL attention (R146, R152). -/
def State.journalWrite (s : State) (r : BillRecord) : State :=
  let j := s.table.journal
  let c := s.table.close
  let s :=
    s.setJournal
      { j with
        slots := put j.slots (journalSlot j.written) (r.bytes j.written)
        written := j.written + 1 }
  let s := s.setClose { c with reserved := if r.isCycle then c.reserved - 1 else c.reserved }
  s.evaluateSpace.flagRole .journal .billing

/-! ## Requests -/

/-- The record check: the CRC over the stored bytes and the stored sequence number agree (R148). -/
def recordGood (stored : List Byte) (sequence : BitVec 32) : Bool :=
  crcGood stored && decide (beNat (stored.take 4) = sequence.toNat)

/-- READ_JOURNAL(sequence) (R148). GOOD is coded 0 and BAD 1 (DESIGN CHOICE, log entry 9). -/
def readJournal (_ : Port) (b : List Byte) (s : State) : Answer :=
  let j := s.table.journal
  let q := BitVec.ofNat 32 (field b 0 4)
  if j.holds q then
    let stored := look j.slots (journalSlot q)
    answer .ok
      (beBytes 4 j.written.toNat ++ beBytes 4 j.released.toNat ++ beBytes 2 s.table.close.reserved ++
        [if recordGood stored q then 0 else 1] ++ stored) s
  else refuse .badArgument s

/-- RELEASE_JOURNAL(sequence) (R149). -/
def releaseJournal (_ : Port) (b : List Byte) (s : State) : Answer :=
  let j := s.table.journal
  let q := BitVec.ofNat 32 (field b 0 4)
  let n := (q - j.released).toNat
  if 1 ≤ n ∧ n ≤ j.held then
    let s := (s.setJournal { j with released := q }).evaluateSpace
    answer .ok
      (beBytes 4 s.table.journal.released.toNat ++ beBytes 2 s.table.journal.held ++
        beBytes 2 s.table.journal.free) s
  else refuse .badArgument s

/-- SET_JOURNAL_THRESHOLD(slots) (R151). -/
def setJournalThreshold (_ : Port) (b : List Byte) (s : State) : Answer :=
  let n := min 4096 (field b 0 2)
  let j := s.table.journal
  let s := (s.setJournal { j with threshold := n }).evaluateSpace
  answer .ok (beBytes 2 n ++ beBytes 2 s.margin) s

/-! ## Meanings -/

/-- R148. -/
def execReadJournal (p : Port) (s : State) : Host.Outcome State Fault Refusal :=
  .next (outOfReset (carryOut Row.readJournal readJournal p) s)

/-- R149. -/
def execReleaseJournal (p : Port) (s : State) : Host.Outcome State Fault Refusal :=
  .next (outOfReset (carryOut Row.releaseJournal releaseJournal p) s)

/-- R151. -/
def execSetJournalThreshold (p : Port) (s : State) : Host.Outcome State Fault Refusal :=
  .next (outOfReset (carryOut Row.setJournalThreshold setJournalThreshold p) s)

end Sys2Proof.Machine
end

