-- ==== Sys2Proof/Machine/Accounting.lean ====
section
/-!
DEFINITION. The Accounting Unit: segments, folds, judgements, catch-up closes, the delivered tier set,
outages, cycle closes and rates (chapters 8 and 9).
-/

namespace Sys2Proof.Machine

/-! ## Minute counters (R123) -/

/-- The most minutes a counter holds. -/
def minuteLimit : Nat := 131071

/-- Adds to each counter, with saturation. -/
def addMinutes (c add : Vector Nat 8) : Vector Nat 8 :=
  tabulate 8 fun t => min minuteLimit (look c t + look add t)

/-- Whether an addition saturates some counter. -/
def addSaturates (c add : Vector Nat 8) : Bool :=
  (List.finRange 8).any fun t => decide (minuteLimit < look c t + look add t)

/-- `d` minutes for each tier of a set. -/
def minutesFor (tiers : Set8) (d : Nat) : Vector Nat 8 :=
  tabulate 8 fun t => if Set8.has tiers t then d else 0

/-- All counters 0. -/
def noMinutes : Vector Nat 8 := Vector.replicate 8 0

/-- Whether some unjudged counter is above 0. -/
def Subscriber.hasUnjudged (x : Subscriber) : Bool :=
  (List.finRange 8).any fun t => decide (0 < look x.unjudged t)

/-! ## Segments (R120, R121) -/

/-- The kind of a segment with this held set on a unit that is DEAD or not (R120). -/
def segmentKind (held : Set8) (dead : Bool) : SegKind :=
  if held = 0 then .none else if dead then .outage else .service

/-- Adds the minutes of the open segment up to `t` (steps 2 and 3 of R121). -/
def Subscriber.accrue (x : Subscriber) (t : Nat) : Subscriber :=
  let add := minutesFor x.seg.tiers (t - x.seg.start.getD t)
  match x.seg.kind with
  | .none => x
  | .service =>
    { x with
      service := addMinutes x.service add
      saturated := x.saturated || addSaturates x.service add }
  | .outage =>
    { x with
      unjudged := addMinutes x.unjudged add
      saturated := x.saturated || addSaturates x.unjudged add }

/-- Closes the open segment at `t` and opens the next with this set and kind (steps 2 to 4 of R121). -/
def Subscriber.foldTo (x : Subscriber) (t : Nat) (tiers : Set8) (kind : SegKind) : Subscriber :=
  { x.accrue t with seg := { start := some t, kind := kind, tiers := tiers } }

/-- Moves the unjudged minutes to credited or to service (R125). -/
def Subscriber.moveUnjudged (x : Subscriber) (credit : Bool) : Subscriber :=
  if credit then
    { x with
      credited := addMinutes x.credited x.unjudged
      saturated := x.saturated || addSaturates x.credited x.unjudged
      unjudged := noMinutes }
  else
    { x with
      service := addMinutes x.service x.unjudged
      saturated := x.saturated || addSaturates x.service x.unjudged
      unjudged := noMinutes }

/-- The length of an outage as of minute `at_`: 0 when its beginning is absent or not earlier (R125, R135). -/
def outageLength (began : Option Nat) (at_ : Nat) : Nat := at_ - began.getD at_

/-- The judgement of a drop's outage as of minute `at_` (R125). -/
def State.judge (s : State) (d : Drop) (at_ : Nat) : State :=
  let length := outageLength (s.unit (Drop.unit d)).outageBegan at_
  s.setSub d ((s.sub d).moveUnjudged (decide (s.table.creditThreshold ≤ length)))

/-! ## Catch-up closes (R135, R136) -/

/-- Whether a drop is lagging (R1). -/
def State.lagging (s : State) (d : Drop) : Bool := decide ((s.sub d).cycle ≠ s.table.cycleNumber)

/-- Whether a record counts in the subscriber count: ACTIVE or SUSPENDED (R2). -/
def SubState.counts : SubState → Bool
  | .active => true
  | .suspended => true
  | .vacant => false
  | .disconnected => false

/-- Folds at the stamp a segment whose start is earlier than the stamp (step 1 of R135). -/
def Subscriber.foldAtStamp (x : Subscriber) (stamp : Nat) : Subscriber :=
  match x.seg.start with
  | some st => if st < stamp then x.foldTo stamp x.seg.tiers x.seg.kind else x
  | none => x

/-- The counters, the saturated flag and the charge list emptied (step 4 of R135). -/
def Subscriber.resetAccounts (x : Subscriber) : Subscriber :=
  { x with
    service := noMinutes
    credited := noMinutes
    unjudged := noMinutes
    saturated := false
    charges := [] }

/-- The CYCLE record of a drop (R136). -/
def State.cycleRecord (s : State) (d : Drop) (early outageOpen : Bool) : BillRecord :=
  let x := s.sub d
  { isCycle := true
    saturated := x.saturated
    outageOpen := outageOpen
    early := early
    drop := d
    account := x.account.getD 0
    state := x.state
    cycle := s.table.close.closingCycle
    periodStart := s.table.close.closingStart.getD 0
    periodEnd := s.table.close.stamp.getD 0
    lines := tierLines s.table.currentRates x
    charges := x.charges }

/-- Whether an outage is to be judged: the segment is OUTAGE or some unjudged counter is above 0. -/
def Subscriber.outageOpen (x : Subscriber) : Bool := decide (x.seg.kind = .outage) || x.hasUnjudged

/-- The fold at the stamp and the judgement of a catch-up close (steps 1 and 2 of R135). -/
def State.settleAtStamp (s : State) (d : Drop) : State :=
  match s.table.close.stamp with
  | none => s
  | some stamp =>
    let s := s.setSub d ((s.sub d).foldAtStamp stamp)
    if (s.sub d).outageOpen then s.judge d stamp else s

/-- The catch-up close of a drop, if it is lagging (R135). `early` unless the walk's visit makes it. -/
def State.catchUp (s : State) (d : Drop) (early : Bool) : State :=
  if !s.lagging d then s
  else if !(s.sub d).state.counts then
    s.setSub d { s.sub d with cycle := s.table.cycleNumber }
  else
    let outageOpen :=
      match s.table.close.stamp with
      | none => false
      | some stamp => ((s.sub d).foldAtStamp stamp).outageOpen
    let s := s.settleAtStamp d
    let s := s.journalWrite (s.cycleRecord d early outageOpen)
    s.setSub d { (s.sub d).resetAccounts with cycle := s.table.cycleNumber }

/-! ## Folds and recomputations (R119, R121, R122) -/

/-- The kind that R120 gives for a held set on the drop's unit as it stands. -/
def State.kindFor (s : State) (d : Drop) (held : Set8) : SegKind :=
  segmentKind held (s.isDead (Drop.unit d))

/-- A fold of a drop at minute `t` (R121). -/
def State.fold (s : State) (d : Drop) (t : Nat) : State :=
  let s := s.catchUp d true
  let held := s.deliveredNow d
  s.setSub d ((s.sub d).foldTo t held (s.kindFor d held))

/-- Replaces the segment's set and kind and leaves its start absent, while the clock is NOT_SET (R122). -/
def State.replaceSegment (s : State) (d : Drop) : State :=
  let held := s.deliveredNow d
  s.setSub d { s.sub d with seg := { start := none, kind := s.kindFor d held, tiers := held } }

/-- Recomputes a drop's delivered tier set; where it differs from the held set, the segment is folded at
the current minute, or replaced while the clock is NOT_SET (R119). -/
def State.recompute (s : State) (d : Drop) : State :=
  if s.deliveredNow d = (s.sub d).seg.tiers then s
  else
    match s.now with
    | some t => s.fold d t
    | none => s.replaceSegment d

/-! ## Outages (R124, R126) -/

/-- A drop's unit has entered DEAD with this outage-began minute (R124). A SERVICE segment is folded at the
later of its start and that minute, and the new segment takes the held set as recomputed (R34, R119, R121).
A NONE segment is left, unless the recomputed set differs, which folds it at the current minute (R34, R119).
The set can differ only on a drop the sweep has not reached (log entry 12). -/
def State.dropEntersDead (began : Option Nat) (s : State) (d : Drop) : State :=
  match s.now with
  | none => s.replaceSegment d
  | some _ =>
    if (s.sub d).seg.kind = .service then
      let s := s.catchUp d true
      let x := s.sub d
      let held := s.deliveredNow d
      s.setSub d (x.foldTo (max (x.seg.start.getD 0) (began.getD 0)) held (s.kindFor d held))
    else s.recompute d

/-- A drop's unit has left DEAD (R126). -/
def State.dropLeavesDead (s : State) (d : Drop) : State :=
  match s.now with
  | none => s.replaceSegment d
  | some e => (s.fold d e).judge d e

/-! ## Shutdown (R129) -/

/-- The shutdown of one drop's account at the current minute (R129). -/
def State.shutdownDrop (t : Nat) (s : State) (d : Drop) : State :=
  let s := s.fold d t
  let s := if s.isDead (Drop.unit d) then s.judge d t else s
  let x := s.sub d
  s.setSub d { x with seg := { x.seg with start := none } }

/-! ## The walk (R134, R137) -/

/-- Table memory at the walk's end: the walk IDLE, the reservation gone, the next rates current (R137). -/
def TableMemory.walkEnded (t : TableMemory) : TableMemory :=
  { t with close := { t.close with walking := false, reserved := 0 }, currentRates := t.nextRates }

/-- The walk's end (R137). -/
def State.endWalk (s : State) : State :=
  let c := s.table.close
  let s := s.setTable s.table.walkEnded
  let s :=
    match c.requester with
    | some p => s.flag .close p
    | none => s
  s.flagRole .journal .billing

/-- WALK_VISIT: the walk visits the drop at its position (R134); no visit is made from SHUTDOWN on (R179). -/
def walkVisit (s : State) : State :=
  if s.table.close.walking ∧ s.power = .normal then
    let d := s.table.close.position
    let s := s.catchUp d false
    if h : d.val + 1 < 2048 then
      s.setClose { s.table.close with position := ⟨d.val + 1, h⟩ }
    else s.endWalk
  else s

/-! ## Cycles, rates and thresholds -/

/-- The minute count above which the cycle is overdue: cycle start + 89,280 (R140). -/
def overdueLimit (start : Nat) : Nat := start + 89280

/-- Whether the current cycle is overdue (R140, R143). -/
def State.overdue (s : State) : Bool :=
  match s.now, s.table.cycleStart with
  | some m, some start => decide (overdueLimit start < m)
  | _, _ => false

/-- Raises CYCLE_OVERDUE, with the cycle number as info (R140). -/
def State.raiseOverdue (s : State) : State := s.raise .cycleOverdue 0 s.table.cycleNumber

/-- The close context of a close taken at minute `m` by port `p` (R133); a port that was detached after its
request was taken is not its requester (R166; log entry 7). -/
def State.closing (s : State) (p : Port) (m : Nat) : CloseContext where
  walking := true
  closingCycle := s.table.cycleNumber
  closingStart := s.table.cycleStart
  stamp := some m
  reserved := s.subscriberCount
  position := 0
  requester := if s.served p then some p else none

/-- A close taken at minute `m` by port `p`: the walk begins and the next cycle is open (R133). -/
def State.beginClose (s : State) (p : Port) (m : Nat) : State :=
  let t := s.table
  ((s.setTable
      { t with
        cycleNumber := t.cycleNumber + 1
        cycleStart := some m
        close := s.closing p m }).evaluateSpace).clear .cycleOverdue 0

/-- START_CLOSE (R132, R133). The stamp of the reply is always present, and is sent as 4 bytes without the presence byte
that R170 gives a minute (DESIGN CHOICE, log entry 9). -/
def startClose (p : Port) (_ : List Byte) (s : State) : Answer :=
  let c := s.table.close
  if c.walking then refuse .busy s
  else
    match s.now with
    | none => refuse .clockNotSet s
    | some m =>
      if m ≤ s.table.cycleStart.getD m then refuse .cycleEmpty s
      else if s.margin < s.subscriberCount then refuse .journalSpace s
      else
        answer .started
          (beBytes 2 s.table.cycleNumber.toNat ++ beBytes 4 m ++ beBytes 2 s.subscriberCount)
          (s.beginClose p m)

/-- A rate table in a reply: 8 rates of 8 BCD digits. -/
def ratesBytes (r : Vector (BitVec 32) 8) : List Byte :=
  (List.finRange 8).flatMap fun t => beBytes 4 (look r t).toNat

/-- The close context in a reply (R131). -/
def CloseContext.bytes (c : CloseContext) : List Byte :=
  yesNo c.walking ++ beBytes 2 c.closingCycle.toNat ++ optBytes 4 c.closingStart ++
    optBytes 4 c.stamp ++ beBytes 2 c.reserved ++ beBytes 2 c.position.val ++
    identByte (c.requester.map Fin.val)

/-- READ_CLOSE_STATUS (R143). -/
def readCloseStatus (_ : Port) (_ : List Byte) (s : State) : Answer :=
  answer .ok
    (beBytes 2 s.table.cycleNumber.toNat ++ optBytes 4 s.table.cycleStart ++ s.table.close.bytes ++
      beBytes 2 s.subscriberCount ++ ratesBytes s.table.currentRates ++
      ratesBytes s.table.nextRates ++ beBytes 2 s.table.creditThreshold ++ yesNo s.overdue) s

/-- SET_RATE(tier, rate) (R139). -/
def setRate (_ : Port) (b : List Byte) (s : State) : Answer :=
  match toFin 8 (field b 0 1) with
  | none => refuse .badArgument s
  | some t =>
    if isBcd 8 (field b 1 4) then
      answer .ok []
        (s.setTable
          { s.table with nextRates := put s.table.nextRates t (BitVec.ofNat 32 (field b 1 4)) })
    else refuse .badDigit s

/-- SET_CREDIT_THRESHOLD(minutes) (R128). -/
def setCreditThreshold (_ : Port) (b : List Byte) (s : State) : Answer :=
  let n := min 1440 (field b 0 2)
  answer .ok (beBytes 2 n) (s.setTable { s.table with creditThreshold := n })

/-! ## Meanings -/

/-- R134, R135, R137. -/
def execWalkVisit (s : State) : Host.Outcome State Fault Refusal := .next (outOfReset walkVisit s)

/-- R132, R133. -/
def execStartClose (p : Port) (s : State) : Host.Outcome State Fault Refusal :=
  .next (outOfReset (carryOut Row.startClose startClose p) s)

/-- R143. -/
def execReadCloseStatus (p : Port) (s : State) : Host.Outcome State Fault Refusal :=
  .next (outOfReset (carryOut Row.readCloseStatus readCloseStatus p) s)

/-- R139. -/
def execSetRate (p : Port) (s : State) : Host.Outcome State Fault Refusal :=
  .next (outOfReset (carryOut Row.setRate setRate p) s)

/-- R128. -/
def execSetCreditThreshold (p : Port) (s : State) : Host.Outcome State Fault Refusal :=
  .next (outOfReset (carryOut Row.setCreditThreshold setCreditThreshold p) s)

end Sys2Proof.Machine
end

