-- ==== Sys2Proof/Machine/PlantMap.lean ====
section
/-!
DEFINITION. The Plant Map: paths and subtree counts, outage alarms, misses, entering and leaving DEAD,
tamper and power (R93 to R104).
-/

namespace Sys2Proof.Machine

/-! ## Paths (R96, R98) -/

/-- The nodes from a feeding place up to the leg root, the lowest first. `fuel` bounds the walk: a tree
of 64 nodes has no longer path. -/
def nodesUp (nodes : Vector NodeEntry 64) : Nat → Feed → List NodeNo
  | 0, _ => []
  | _ + 1, .root => []
  | fuel + 1, .node n =>
    n :: (match (look nodes n).place with
          | some p => nodesUp nodes fuel p.parent
          | none => [])

/-- The nodes of the path of a unit or node fed by `f`; its leg's root stands above them (R98). -/
def State.pathFrom (s : State) (f : Feed) : List NodeNo := nodesUp s.table.nodes 64 f

/-- The depth of a node: the number of nodes on its path up to the leg root, counting itself (R96). -/
def State.depth (s : State) (n : NodeNo) : Nat := (s.pathFrom (.node n)).length

/-! ## Counts and outage state (R98, R99) -/

/-- The outage state found afresh: OUT when there is a unit below and every unit below is DEAD (R98). -/
def Tally.refresh (x : Tally) : Tally := { x with out := decide (1 ≤ x.units ∧ x.dead = x.units) }

/-- Adds units and dead units to a place. -/
def Tally.gain (units dead : Nat) (x : Tally) : Tally :=
  { x with units := x.units + units, dead := x.dead + dead }.refresh

/-- Takes units and dead units from a place. -/
def Tally.shed (units dead : Nat) (x : Tally) : Tally :=
  { x with units := x.units - units, dead := x.dead - dead }.refresh

/-- Applies a change to the tally of a node. -/
def State.modNode (s : State) (n : NodeNo) (f : Tally → Tally) : State :=
  s.setNode n { s.node n with tally := f (s.node n).tally }

/-- Applies a change to every place of a path: the nodes, then the root of the leg. -/
def State.alongPath (s : State) (nodes : List NodeNo) (l : Leg) (f : Tally → Tally) : State :=
  let s := forEach nodes (fun s n => s.modNode n f) s
  s.setRoot l (f (s.root l))

/-- Applies a change along the path of a unit, if it is installed (R98). -/
def State.alongUnit (s : State) (u : UnitNo) (f : Tally → Tally) : State :=
  match (s.unit u).feeding with
  | some fd => s.alongPath (s.pathFrom fd) (UnitNo.leg u) f
  | none => s

/-! ## Outage alarms (R100) -/

/-- Whether the place that a feed names on leg `l` is OUT. -/
def State.feedOut (s : State) (l : Leg) (f : Feed) : Bool :=
  match f with
  | .node n => (s.node n).tally.out
  | .root => (s.root l).out

/-- LEG_OUTAGE stands while the leg root is OUT. -/
def State.legOutageStands (s : State) (l : Leg) : Bool := (s.root l).out

/-- NODE_OUTAGE stands while the node is OUT and what feeds it is UP. -/
def State.nodeOutageStands (s : State) (n : NodeNo) : Bool :=
  match (s.node n).place with
  | some p => (s.node n).tally.out && !s.feedOut p.leg p.parent
  | none => false

/-- UNIT_DEAD stands while the unit is DEAD and what feeds it is UP. -/
def State.unitDeadStands (s : State) (u : UnitNo) : Bool :=
  match (s.unit u).feeding with
  | some f => s.isDead u && !s.feedOut (UnitNo.leg u) f
  | none => false

/-- The info of UNIT_DEAD: the feeding node, or 64 + leg for the root. -/
def State.feedInfo (s : State) (u : UnitNo) : BitVec 16 :=
  match (s.unit u).feeding with
  | some (.node n) => BitVec.ofNat 16 n.val
  | _ => BitVec.ofNat 16 (64 + (UnitNo.leg u).val)

/-- The outage alarms of `before` that no longer hold are cleared. -/
def State.clearOutages (before s : State) : State :=
  let s := forEach (List.finRange 4)
    (fun t l => if before.legOutageStands l && !s.legOutageStands l then t.clear .legOutage l.val else t) s
  let s := forEach (List.finRange 64)
    (fun t n => if before.nodeOutageStands n && !s.nodeOutageStands n then t.clear .nodeOutage n.val else t) s
  forEach (List.finRange 128)
    (fun t u => if before.unitDeadStands u && !s.unitDeadStands u then t.clear .unitDead u.val else t) s

/-- The outage alarms that did not hold in `before` and now hold are raised: LEG_OUTAGE, NODE_OUTAGE
ascending, UNIT_DEAD ascending. -/
def State.raiseOutages (before s : State) : State :=
  let s := forEach (List.finRange 4)
    (fun t l =>
      if !before.legOutageStands l && s.legOutageStands l then
        t.raise .legOutage l.val (BitVec.ofNat 16 (s.root l).units) else t) s
  let s := forEach (List.finRange 64)
    (fun t n =>
      if !before.nodeOutageStands n && s.nodeOutageStands n then
        t.raise .nodeOutage n.val (BitVec.ofNat 16 (s.node n).tally.units) else t) s
  forEach (List.finRange 128)
    (fun t u =>
      if !before.unitDeadStands u && s.unitDeadStands u then t.raise .unitDead u.val (s.feedInfo u)
      else t) s

/-- Re-derives the outage alarms after a change from `before`: the clears, then the raises (R100). -/
def State.rederive (before s : State) : State := State.raiseOutages before (State.clearOutages before s)

/-! ## Power (R102, R103) -/

/-- The power-alarm units that a place feeds directly. -/
def State.powerUnits (s : State) (l : Leg) (f : Feed) : List UnitNo :=
  (List.finRange 128).filter fun u =>
    decide (UnitNo.leg u = l ∧ (s.unit u).feeding = some f) && (s.unit u).powerAlarm

/-- The lowest supply reading among units, a unit without a reading taken as 0 (R103). -/
def State.lowestSupply (s : State) (us : List UnitNo) : Nat :=
  match us.map fun u => (s.unit u).supply.getD 0 with
  | [] => 0
  | x :: xs => xs.foldl min x

/-- The object of NODE_POWER: the node, or 64 + leg for a leg root. -/
def powerObject (l : Leg) (f : Feed) : Nat :=
  match f with
  | .node n => n.val
  | .root => 64 + l.val

/-- The power state of a place. -/
def State.onPowerAlarm (s : State) (l : Leg) (f : Feed) : Bool :=
  match f with
  | .node n => (s.node n).tally.onPowerAlarm
  | .root => (s.root l).onPowerAlarm

/-- The state with the power state of a place replaced. -/
def State.setOnPowerAlarm (s : State) (l : Leg) (f : Feed) (on : Bool) : State :=
  match f with
  | .node n => s.modNode n fun t => { t with onPowerAlarm := on }
  | .root => s.setRoot l { s.root l with onPowerAlarm := on }

/-- Finds the power state of a feeding place afresh; NODE_POWER follows (R103). -/
def State.refreshPower (s : State) (l : Leg) (f : Feed) : State :=
  let us := s.powerUnits l f
  let on := !us.isEmpty
  if on = s.onPowerAlarm l f then s
  else
    (s.setOnPowerAlarm l f on).alarmWhile on .nodePower (powerObject l f)
      (BitVec.ofNat 16 (s.lowestSupply us))

/-- Finds the power state of the place that feeds a unit afresh, if the unit is installed. -/
def State.refreshFeedPower (s : State) (u : UnitNo) : State :=
  match (s.unit u).feeding with
  | some f => s.refreshPower (UnitNo.leg u) f
  | none => s

/-- The flags of a status block: bit 0 RESET, bit 1 COVER_OPEN, bit 2 STANDBY, the others disregarded (R172). -/
def flagsOf (b : Byte) : Byte := b &&& 0x07

/-- RESET among the flags. -/
def hasReset (flags : Byte) : Bool := flags.getLsbD 0

/-- COVER_OPEN among the flags. -/
def hasCoverOpen (flags : Byte) : Bool := flags.getLsbD 1

/-- STANDBY among the flags. -/
def hasStandby (flags : Byte) : Bool := flags.getLsbD 2

/-- The power alarm of a unit found afresh from a reply (R102). -/
def powerAlarmAfter (was : Bool) (flags : Byte) (supply threshold : Nat) : Bool :=
  if hasStandby flags || decide (supply < threshold) then true
  else if min 255 (threshold + 4) ≤ supply then false
  else was

/-- Step 2 of R83: tamper, flags, supply and power of a VALID status reply (R101, R102). UNIT_TAMPER comes before
NODE_POWER (DESIGN CHOICE, log entry 17). -/
def State.applyFlags (s : State) (u : UnitNo) (flags : Byte) (supply : Nat) : State :=
  let x := s.unit u
  let s :=
    if hasCoverOpen flags && !hasCoverOpen x.flags then
      s.raise .unitTamper u.val (flags.zeroExtend 16)
    else if !hasCoverOpen flags && hasCoverOpen x.flags then s.clear .unitTamper u.val
    else s
  let threshold := (s.legSettings (UnitNo.leg u)).warning
  let alarm := powerAlarmAfter x.powerAlarm flags supply threshold
  let s := s.setUnit u { s.unit u with flags := flags, supply := some supply, powerAlarm := alarm }
  if alarm = x.powerAlarm then s else s.refreshFeedPower u

/-! ## Liveness (R93, R94, R104) -/

/-- The sixteen drops of a unit in ascending port order. -/
def dropsOf (u : UnitNo) : List Drop := (List.finRange 16).map (dropOf u)

/-- A unit that has just reached its miss limit enters DEAD: liveness and outage began, then the accounts
of its drops, then the dead counts and the outage alarms (R93, R104, R98, R100). -/
def State.enterDead (s : State) (u : UnitNo) : State :=
  let before := s
  let began := (s.unit u).firstMiss
  let s := s.setUnit u { s.unit u with liveness := .dead, outageBegan := began }
  let s := forEach (dropsOf u) (State.dropEntersDead began) s
  let s := s.alongUnit u (Tally.gain 0 1)
  State.rederive before s

/-- A miss against an installed unit (R93). -/
def State.miss (s : State) (u : UnitNo) : State :=
  let x := s.unit u
  let n := min 7 (x.misses + 1)
  let first := if x.misses = 0 then s.now else x.firstMiss
  let s := s.setUnit u { x with misses := n, firstMiss := first }
  if (s.legSettings (UnitNo.leg u)).missLimit ≤ n then
    if x.liveness = .dead then s else s.enterDead u
  else if x.liveness = .alive then s.setUnit u { s.unit u with liveness := .suspect }
  else s

/-- A unit leaves DEAD: its drops are folded and judged, outage began becomes absent, the dead counts and
outage alarms follow, and its order held is cleared (R94, R126, R87). -/
def State.leaveDead (before s : State) (u : UnitNo) : State :=
  let s := forEach (dropsOf u) State.dropLeavesDead s
  let s := s.setUnit u { s.unit u with outageBegan := none }
  let s := s.alongUnit u (Tally.shed 0 1)
  (State.rederive before s).dropHold u

/-- Step 1 of R83: a VALID status reply brings a unit to ALIVE (R94). -/
def State.revive (s : State) (u : UnitNo) : State :=
  let before := s
  let wasDead := s.isDead u
  let s := s.setUnit u { s.unit u with liveness := .alive, misses := 0, firstMiss := none }
  if wasDead then State.leaveDead before s u else s

end Sys2Proof.Machine
end

