-- ==== Sys2Proof/Machine/Legs.lean ====
section
/-!
DEFINITION. The leg controllers: the queues and promotion mode, the leg arbiter, transactions and their
phases, the classification of replies, what a reply does, and the leg requests (chapters 4 and 5).
-/

namespace Sys2Proof.Machine

/-! ## Due-poll queue and promotion mode (R73 to R75) -/

/-- A unit joins the tail of the due-poll queue: from 5 units to 6 turns promotion mode on (R74, R75). -/
def LegState.addDue (g : LegState) (u : LegUnit) : LegState :=
  let g := { g with dueQueue := g.dueQueue ++ [u] }
  if g.dueQueue.length = 6 ∧ !g.promotion then
    { g with
      promotion := true
      counters := { g.counters with promotions := g.counters.promotions + 1 } }
  else g

/-- A unit leaves the due-poll queue: from 3 units to 2 turns promotion mode off (R74, R75). -/
def LegState.removeDue (g : LegState) (u : LegUnit) : LegState :=
  if u ∈ g.dueQueue then
    let q := g.dueQueue.filter (· ≠ u)
    { g with
      dueQueue := q
      promotion := if g.dueQueue.length = 3 then false else g.promotion }
  else g

/-- The next installed unit of a leg after a pointer: the lowest above it, else the lowest (R73). -/
def State.nextInstalled (s : State) (l : Leg) (pointer : LegUnit) : Option LegUnit :=
  let us := (List.finRange 32).filter fun u => s.installed (unitOf l u)
  match us.find? fun u => decide (pointer < u) with
  | some u => some u
  | none => us.head?

/-! ## Frames (R59, R172) -/

/-- The kind character (R172). -/
def FrameKind.char : FrameKind → Byte
  | .poll => 0x01
  | .setports => 0x02
  | .range => 0x03

/-- A frame sent to a unit (R59, R172). -/
def legFrame (u : LegUnit) (k : FrameKind) (payload : List Byte) : List Byte :=
  withCrc (byte u.val :: k.char :: byte payload.length :: payload)

/-! ## The leg arbiter (R81, R82) -/

/-- A transaction at its beginning (R56). -/
def LegSettings.begin (m : LegSettings) (k : FrameKind) (u : LegUnit) (w : Purpose)
    (images : Option Images) : Transaction where
  kind := k
  unit := u
  purpose := w
  frame :=
    legFrame u k
      (match images with
       | some im => imagesBytes im
       | none => [])
  images := images
  rate := m.rate
  filter := m.filter
  blanking := m.blanking
  window := m.window
  phase := .sending
  latency := none
  collected := []
  receiver := .hunting
  targetGone := false

/-- Begins a due poll of the unit at the head of the due-poll queue. -/
def State.beginPoll (s : State) (l : Leg) (u : LegUnit) : State :=
  let g := (s.leg l).removeDue u
  s.setLeg l
    { g with
      tx := some ((s.legSettings l).begin .poll u .duePoll none)
      counters := { g.counters with pollsSent := g.counters.pollsSent + 1 } }

/-- Begins the direct transaction of the leg's slot. -/
def State.beginDirect (s : State) (l : Leg) (j : DirectJob) : State :=
  let g := s.leg l
  s.setLeg l
    { g with
      tx := some ((s.legSettings l).begin j.kind j.unit .direct none)
      direct := .inFlight j
      counters := { g.counters with directSent := g.counters.directSent + 1 } }

/-- Begins an order: a SETPORTS built from the desired images as they stand. -/
def State.beginOrder (s : State) (l : Leg) (u : LegUnit) : State :=
  let g := s.leg l
  s.setLeg l
    { g with
      tx :=
        some ((s.legSettings l).begin .setports u .order (some (s.desiredImages (unitOf l u))))
      counters := { g.counters with ordersSent := g.counters.ordersSent + 1 } }

/-- What the arbiter can choose. -/
inductive Candidate where
  | duePoll (u : LegUnit)
  | direct (j : DirectJob)
  | order (u : LegUnit)
deriving DecidableEq, Repr

/-- The first candidate in the order of R81. -/
def State.candidate (s : State) (l : Leg) : Option Candidate :=
  let g := s.leg l
  let poll := g.dueQueue.head?.map Candidate.duePoll
  let job :=
    match g.direct with
    | .submitted j => some (Candidate.direct j)
    | _ => none
  let order := (g.orderQueue.find? fun u => !s.isDead (unitOf l u)).map Candidate.order
  if g.promotion then (poll.or job).or order else (job.or order).or poll

/-- Begins a transaction when the leg is RUNNING, none is in flight and a candidate stands; the arbiters
begin none in SHUTDOWN and SAFE (R81, R179). -/
def State.arbitrate (s : State) (l : Leg) : State :=
  if s.run l = .running ∧ (s.leg l).tx = none ∧ s.power = .normal then
    match s.candidate l with
    | some (.duePoll u) => s.beginPoll l u
    | some (.direct j) => s.beginDirect l j
    | some (.order u) => s.beginOrder l u
    | none => s
  else s

/-! ## Classification of replies (R60, R64, R172) -/

/-- The payload length expected of a reply (R60). -/
def FrameKind.replyLength : FrameKind → Nat
  | .poll => 34
  | .setports => 34
  | .range => 0

/-- Whether a reply is short: fewer than three characters, or fewer than its frame length (R63). -/
def replyShort (data : List Byte) : Bool :=
  decide (data.length < 3 ∨ data.length < 3 + (data.getD 2 0).toNat + 2)

/-- The outcome of a reply that has ended: the first check of R64 that fails, else VALID. -/
def classify (k : FrameKind) (u : LegUnit) (chars : List RxChar) : LegOutcome :=
  let data := chars.map RxChar.data
  let len := (data.getD 2 0).toNat
  if chars.any RxChar.framingFault then .lineError .framing
  else if chars.any RxChar.parityFault then .lineError .parity
  else if replyShort data then .lineError .truncated
  else if data.getD 0 0 ≠ byte (0x80 + u.val) ∨ data.getD 1 0 ≠ k.char then .lineError .wrongPartner
  else if len ≠ k.replyLength then .lineError .length
  else if !crcGood (data.take (5 + len)) then .lineError .crc
  else if 5 + len < data.length then .lineError .overrun
  else .valid

/-- The payload of a reply classified VALID. -/
def replyPayload (chars : List RxChar) : List Byte :=
  ((chars.map RxChar.data).drop 3).take (chars.length - 5)

/-! ## The end of a transaction (R65, R70, R79, R83 to R86) -/

/-- Adds one to the counter of an outcome (R65). -/
def LegCounters.count (c : LegCounters) (o : LegOutcome) : LegCounters :=
  match o with
  | .valid => { c with validReplies := c.validReplies + 1 }
  | .silent => { c with silent := c.silent + 1 }
  | .lineError .framing => { c with framing := c.framing + 1 }
  | .lineError .parity => { c with parity := c.parity + 1 }
  | .lineError .truncated => { c with truncated := c.truncated + 1 }
  | .lineError .wrongPartner => { c with wrongPartner := c.wrongPartner + 1 }
  | .lineError .length => { c with length := c.length + 1 }
  | .lineError .crc => { c with crc := c.crc + 1 }
  | .lineError .overrun => { c with overrun := c.overrun + 1 }

/-- Updates the consecutive line-error count and LEG_NOISE (R70). -/
def State.noise (s : State) (l : Leg) (o : LegOutcome) : State :=
  let g := s.leg l
  match o with
  | .valid => (s.setLeg l { g with lineErrors := 0 }).clear .legNoise l.val
  | .silent => s
  | .lineError _ =>
    let n := min 255 (g.lineErrors + 1)
    let t := s.setLeg l { g with lineErrors := n }
    if g.lineErrors = 15 then t.raise .legNoise l.val (BitVec.ofNat 16 n) else t

/-- Steps 1 and 2 of R65. -/
def State.countOutcome (s : State) (l : Leg) (o : LegOutcome) : State :=
  let g := s.leg l
  (s.setLeg l { g with counters := g.counters.count o }).noise l o

/-- The direct slot that still holds the transaction becomes DONE, with DIRECT attention for its owner (R79). -/
def State.directDone (s : State) (l : Leg) (r : DirectResult) : State :=
  match (s.leg l).direct with
  | .inFlight j => (s.setLeg l { s.leg l with direct := .done j r }).flag .direct j.owner
  | _ => s

/-- Whether a sweep under way has not yet visited a drop (R34). -/
def State.unswept (s : State) (d : Drop) : Bool :=
  match s.table.activation with
  | .sweeping position _ => decide (position ≤ d)
  | _ => false

/-- Step 3 of R83: the confirmed images become those of the reply, and each drop whose image changed or
became present, or which the sweep has not reached (R34, R119), has its delivered tier set recomputed. -/
def State.storeImages (s : State) (u : UnitNo) (im : Images) : State :=
  let was := (s.unit u).images
  let s := s.setUnit u { s.unit u with images := some im }
  forEach
    ((List.finRange 16).filter fun p =>
      decide (was.map (fun w => look w p) ≠ some (look im p)) || s.unswept (dropOf u p))
    (fun s p => s.recompute (dropOf u p)) s

/-- The order queue with a unit removed. -/
def LegState.dropOrder (g : LegState) (u : LegUnit) : LegState :=
  { g with orderQueue := g.orderQueue.filter (· ≠ u) }

/-- The order queue with a queued unit moved to the tail (R77). -/
def LegState.requeueOrder (g : LegState) (u : LegUnit) : LegState :=
  if u ∈ g.orderQueue then { g with orderQueue := g.orderQueue.filter (· ≠ u) ++ [u] } else g

/-- The confirmation compare after a VALID status reply to a SETPORTS (R85). -/
def State.compareOrder (s : State) (u : UnitNo) (sent reply : Images) : State :=
  let l := UnitNo.leg u
  let k := UnitNo.onLeg u
  let want := s.desiredImages u
  if reply = want then
    (s.setUnit u { s.unit u with attempts := 0 }).setLeg l ((s.leg l).dropOrder k)
  else if sent ≠ want then s.setLeg l ((s.leg l).requeueOrder k)
  else
    let n := min 3 ((s.unit u).attempts + 1)
    if n < 3 then
      (s.setUnit u { s.unit u with attempts := n }).setLeg l ((s.leg l).requeueOrder k)
    else
      ((s.setUnit u { s.unit u with attempts := 3, held := true }).setLeg l
        ((s.leg l).dropOrder k)).raise .orderFailed u.val (differingPorts reply want)

/-- A VALID status reply applied to an installed unit (R83): liveness, flags and supply, images, RESET,
then the queue evaluation of a POLL or the compare of a SETPORTS. -/
def State.applyStatus (s : State) (u : UnitNo) (sent : Option Images) (block : List Byte) : State :=
  let flags := flagsOf (block.getD 0 0)
  let reply := imagesOf (block.drop 2)
  let s := s.revive u
  let s := s.applyFlags u flags (block.getD 1 0).toNat
  let s := s.storeImages u reply
  let s := if hasReset flags then s.dropHold u else s
  match sent with
  | none => s.evaluateOrder u
  | some im => s.compareOrder u im reply

/-- Step 3 of R65: the outcome is handed on by the purpose of the transaction. A target that was
uninstalled in flight, or is not installed, takes no reply and no miss; a RANGE touches no unit. -/
def State.handOn (s : State) (l : Leg) (tx : Transaction) (o : LegOutcome) (payload : List Byte) :
    State :=
  let u := unitOf l tx.unit
  let s :=
    if tx.purpose = .direct then
      s.directDone l { outcome := o, block := payload, latency := tx.latency }
    else s
  if tx.kind = .range ∨ tx.targetGone ∨ !s.installed u then s
  else if o = .valid then s.applyStatus u tx.images payload
  else s.miss u

/-- The end of the transaction in flight on a leg (R65): the outcome is counted and handed on, the record
is discarded, a STOPPING leg becomes STOPPED, and the arbiter may begin the next. -/
def State.endTransaction (s : State) (l : Leg) (o : LegOutcome) (payload : List Byte) : State :=
  match (s.leg l).tx with
  | none => s
  | some tx =>
    let s := s.countOutcome l o
    let s := s.handOn l tx o payload
    let s := s.setLeg l { s.leg l with tx := none }
    let s := if s.run l = .stopping then s.setRun l .stopped else s
    s.arbitrate l

/-! ## Events of the line -/

/-- The transaction of a leg in a given phase, if there is one. -/
def State.txIn (s : State) (l : Leg) (ph : TxPhase) : Option Transaction :=
  match (s.leg l).tx with
  | some tx => if tx.phase = ph then some tx else none
  | none => none

/-- The transaction of a leg replaced. -/
def State.setTx (s : State) (l : Leg) (tx : Transaction) : State :=
  s.setLeg l { s.leg l with tx := some tx }

/-- POLL_TICK: the next interval starts, the pointer advances, and the unit made due joins the due-poll
queue or counts as a skipped poll (R73). The tick runs on a RUNNING leg, and has no effect from
SHUTDOWN on (R68, R179). -/
def pollTick (l : Leg) (s : State) : State :=
  if s.run l = .running ∧ s.power = .normal then
    let g := { s.leg l with tickInterval := some (s.legSettings l).tick }
    match s.nextInstalled l g.pointer with
    | none => s.setLeg l g
    | some u =>
      let g := { g with pointer := u }
      if u ∈ g.dueQueue then
        s.setLeg l
          { g with counters := { g.counters with skippedPolls := g.counters.skippedPolls + 1 } }
      else (s.setLeg l (g.addDue u)).arbitrate l
  else s

/-- SENDING_END: blanking begins, or the window when the blanking time is 0 (R56, R61). -/
def sendingEnd (l : Leg) (s : State) : State :=
  match s.txIn l .sending with
  | some tx => s.setTx l { tx with phase := if tx.blanking = 0 then .window else .blanking }
  | none => s

/-- BLANKING_EXPIRY: the window begins (R61). -/
def blankingExpiry (l : Leg) (s : State) : State :=
  match s.txIn l .blanking with
  | some tx => s.setTx l { tx with phase := .window }
  | none => s

/-- START_BIT_CONFIRMED: in WINDOW a confirmed start bit begins the reply, and the latency is recorded in
units of 0.1 ms (R62); in RECEIVING it begins the next character of the reply (R63). A glitch is discarded
(R58). -/
def startBitConfirmed (l : Leg) (micros : Nat) (samples : List Level) (s : State) : State :=
  match s.txIn l .window with
  | some tx =>
    if startConfirmed tx.filter samples then
      s.setLeg l
        { s.leg l with
          tx :=
            some
              { tx with phase := .receiving, receiver := .character, latency := some (micros / 100) }
          lastLatency := some (micros / 100) }
    else s
  | none =>
    match s.txIn l .receiving with
    | some tx => s.setTx l { tx with receiver := tx.receiver.after tx.filter samples }
    | none => s

/-- REPLY_WINDOW_EXPIRY: the window expires with no start confirmed (R62). -/
def replyWindowExpiry (l : Leg) (s : State) : State :=
  match s.txIn l .window with
  | some _ => s.endTransaction l .silent []
  | none => s

/-- The reply of a transaction has ended: it is classified and the transaction ends (R63, R64). -/
def State.endReply (s : State) (l : Leg) (tx : Transaction) : State :=
  let o := classify tx.kind tx.unit tx.collected
  s.endTransaction l o (if o = .valid then replyPayload tx.collected else [])

/-- The number of characters at which a reply ends whatever follows (R63). -/
def replyLimit : Nat := 261

/-- REPLY_CHARACTER_RECEIVED: collected in RECEIVING when its start bit is confirmed, ending the reply at the
261st; a glitch, and a character in any other phase, is discarded (R58, R63). -/
def replyCharacterReceived (l : Leg) (samples : List Level) (s : State) : State :=
  match s.txIn l .receiving with
  | some tx =>
    match tx.receiver.take tx.filter samples with
    | some c =>
      let tx := { tx with collected := tx.collected ++ [c], receiver := c.next }
      let s := s.setTx l tx
      if replyLimit ≤ tx.collected.length then s.endReply l tx else s
    | none => s.setTx l { tx with receiver := tx.receiver.after tx.filter samples }
  | none => s

/-- REPLY_QUIET_END: three character times of quiet after a character end the reply, unless the start bit of
the next is confirmed (R63). -/
def replyQuietEnd (l : Leg) (s : State) : State :=
  match s.txIn l .receiving with
  | some tx => if tx.receiver = .character ∨ tx.collected = [] then s else s.endReply l tx
  | none => s

/-! ## Requests -/

/-- The line rate of a code (R170). -/
def rateArg (n : Nat) : Option LineRate :=
  match n with
  | 0 => some .baud9600
  | 1 => some .baud19200
  | 2 => some .baud38400
  | _ => none

/-- The reply window stored for an argument (R66). -/
def storedWindow (n : Nat) : Nat :=
  if n ≤ 1 then 2 else if 62 ≤ n then 62 else if n % 2 = 1 then n + 1 else n

/-- The configuration stored for a SET_LEG body (R66). R66 stores the filter argument as given and R170 gives a value
named on or off no type: that 00 hex is off and every other byte is on, as R167 takes a yes/no argument, is the model's
choice (DESIGN CHOICE, log entry 9). -/
def legArg (rate : LineRate) (b : List Byte) : LegSettings where
  rate := rate
  filter := flagArg b 2
  blanking := min 15 (field b 3 1)
  window := storedWindow (field b 4 1)
  tick := min 500 (max 5 (field b 5 2))
  missLimit := min 7 (max 1 (field b 7 1))
  warning := field b 8 1

/-- The seven settings in a reply (R66). R170 gives the codes 0, 1 and 2 of a line rate for request bodies; that the
reply carries the same one-byte code is the model's choice (DESIGN CHOICE, log entry 9). R170 gives a value named on or
off no type; that the noise filter is sent as a yes/no field, 01 hex for on and 00 hex for off, is the model's choice
too (DESIGN CHOICE, log entry 9). -/
def LegSettings.bytes (m : LegSettings) : List Byte :=
  [byte m.rate.code] ++ yesNo m.filter ++ [byte m.blanking, byte m.window] ++ beBytes 2 m.tick ++
    [byte m.missLimit, byte m.warning]

/-- SET_LEG(leg, line rate, filter, blanking, window, tick, miss limit, warning threshold) (R66, R67). -/
def setLeg (_ : Port) (b : List Byte) (s : State) : Answer :=
  match toFin 4 (field b 0 1), rateArg (field b 1 1) with
  | some l, some rate => answer .ok (legArg rate b).bytes (s.setLegSettings l (legArg rate b))
  | _, _ => refuse .badArgument s

/-- START_LEG(leg): the poll tick starts afresh unless the leg is RUNNING (R68). -/
def startLeg (_ : Port) (b : List Byte) (s : State) : Answer :=
  match toFin 4 (field b 0 1) with
  | none => refuse .badArgument s
  | some l =>
    let s :=
      if s.run l = .running then s
      else
        ((s.setRun l .running).setLeg l
          { s.leg l with tickInterval := some (s.legSettings l).tick }).arbitrate l
    answer .ok [byte (s.run l).code] s

/-- STOP_LEG(leg) (R68). -/
def stopLeg (_ : Port) (b : List Byte) (s : State) : Answer :=
  match toFin 4 (field b 0 1) with
  | none => refuse .badArgument s
  | some l =>
    let s :=
      if s.run l = .running then
        (s.setRun l (if (s.leg l).tx.isSome then .stopping else .stopped)).setLeg l
          { s.leg l with tickInterval := none }
      else s
    answer .ok [byte (s.run l).code] s

/-- CLEAR_LEG_COUNTERS(leg) (R69). -/
def clearLegCounters (_ : Port) (b : List Byte) (s : State) : Answer :=
  match toFin 4 (field b 0 1) with
  | none => refuse .badArgument s
  | some l => answer .ok [] (s.setLeg l { s.leg l with counters := LegCounters.zero })

/-- The fourteen counters in a reply (R69). -/
def LegCounters.bytes (c : LegCounters) : List Byte :=
  [c.pollsSent, c.ordersSent, c.directSent, c.validReplies, c.silent, c.framing, c.parity, c.truncated,
    c.length, c.crc, c.overrun, c.wrongPartner, c.promotions, c.skippedPolls].flatMap
    fun x => beBytes 4 x.toNat

/-- The transaction in flight in a reply: a presence byte, kind, target, purpose and phase (R71). That a presence byte
says whether one is in flight, and that zeros follow where none is, is the model's choice (DESIGN CHOICE, log entry
9). -/
def txBytes (tx : Option Transaction) : List Byte :=
  match tx with
  | some t => [1, byte t.kind.code, byte t.unit.val, byte t.purpose.code, byte t.phase.code]
  | none => [0, 0, 0, 0, 0]

/-- Whether a unit's order is in flight (R77). An order sent before the unit was uninstalled, or before a COLD_START, is
none of the entry that the unit has after it is installed and queued again, and shows nowhere as in flight; R77 and R88
leave that open (DEDUCED, log entry 21). -/
def LegState.orderInFlight (g : LegState) (u : LegUnit) : Bool :=
  match g.tx with
  | some tx => decide (tx.purpose = .order ∧ tx.unit = u) && !tx.targetGone
  | none => false

/-- An item of the order queue: bit 6 for the unit in flight, bit 7 for a DEAD unit (R170). A unit that was uninstalled
and queued again while its old order is in flight has bit 6 clear (DEDUCED, log entry 21). -/
def State.orderItem (s : State) (l : Leg) (u : LegUnit) : Byte :=
  byte u.val ||| (if (s.leg l).orderInFlight u then 0x40#8 else 0) |||
    (if s.isDead (unitOf l u) then 0x80#8 else 0)

/-- The direct slot in a reply: its state and, unless it is empty, owner, kind and target (R88). -/
def DirectSlot.bytes (x : DirectSlot) : List Byte :=
  match x with
  | .empty => [byte x.code]
  | .submitted j => [byte x.code, byte j.owner.val, byte j.kind.code, byte j.unit.val]
  | .inFlight j => [byte x.code, byte j.owner.val, byte j.kind.code, byte j.unit.val]
  | .done j _ => [byte x.code, byte j.owner.val, byte j.kind.code, byte j.unit.val]

/-- READ_LEG(leg) (R71, R88). R75 names promotion mode on or off, which R170 gives no type: that it is sent as a yes/no
field, 01 hex for on and 00 hex for off, is the model's choice (DESIGN CHOICE, log entry 9). -/
def readLeg (_ : Port) (b : List Byte) (s : State) : Answer :=
  match toFin 4 (field b 0 1) with
  | none => refuse .badArgument s
  | some l =>
    let g := s.leg l
    answer .ok
      ((s.legSettings l).bytes ++ [byte (s.run l).code] ++ txBytes g.tx ++ optBytes 2 g.lastLatency ++
        g.counters.bytes ++ [byte g.lineErrors] ++
        countedList (g.dueQueue.map fun u => [byte u.val]) ++
        countedList (g.orderQueue.map fun u => [s.orderItem l u]) ++ yesNo g.promotion ++
        [byte g.pointer.val] ++ g.direct.bytes) s

/-- The kind of a DIRECT: POLL 0 or RANGE 2 (R78, R170). -/
def directKindArg (n : Nat) : Option FrameKind :=
  match n with
  | 0 => some .poll
  | 2 => some .range
  | _ => none

/-- DIRECT(leg, unit, kind) (R78). A port detached after its request was taken owns no slot by it (R79; log
entry 7). -/
def direct (p : Port) (b : List Byte) (s : State) : Answer :=
  match toFin 4 (field b 0 1), toFin 32 (field b 1 1), directKindArg (field b 2 1) with
  | some l, some u, some k =>
    if (s.leg l).direct ≠ .empty then refuse .busy s
    else if s.run l = .stopped then refuse .wrongState s
    else if !s.served p then answer .started [] s
    else
      answer .started []
        ((s.setLeg l { s.leg l with direct := .submitted { owner := p, kind := k, unit := u } }).arbitrate l)
  | _, _, _ => refuse .badArgument s

/-- READ_DIRECT(leg) (R80). The status block of a VALID POLL ends the body as it was received, and any other body ends
without one (DESIGN CHOICE, log entry 9). -/
def readDirect (p : Port) (b : List Byte) (s : State) : Answer :=
  match toFin 4 (field b 0 1) with
  | none => refuse .badArgument s
  | some l =>
    match (s.leg l).direct with
    | .empty => refuse .wrongState s
    | .submitted j => if j.owner = p then refuse .busy s else refuse .notPermitted s
    | .inFlight j => if j.owner = p then refuse .busy s else refuse .notPermitted s
    | .done j r =>
      if j.owner = p then
        answer .ok
          ([byte j.kind.code, byte j.unit.val, byte r.outcome.code] ++ optBytes 2 r.latency ++ r.block)
          (s.setLeg l { s.leg l with direct := .empty })
      else refuse .notPermitted s

/-! ## Meanings -/

/-- R73. -/
def execPollTick (l : Leg) (s : State) : Host.Outcome State Fault Refusal :=
  .next (outOfReset (pollTick l) s)

/-- R61. -/
def execSendingEnd (l : Leg) (s : State) : Host.Outcome State Fault Refusal :=
  .next (outOfReset (sendingEnd l) s)

/-- R61. -/
def execBlankingExpiry (l : Leg) (s : State) : Host.Outcome State Fault Refusal :=
  .next (outOfReset (blankingExpiry l) s)

/-- R58, R62. -/
def execStartBitConfirmed (l : Leg) (micros : Nat) (samples : List Level) (s : State) :
    Host.Outcome State Fault Refusal :=
  .next (outOfReset (startBitConfirmed l micros samples) s)

/-- R62. -/
def execReplyWindowExpiry (l : Leg) (s : State) : Host.Outcome State Fault Refusal :=
  .next (outOfReset (replyWindowExpiry l) s)

/-- R63. -/
def execReplyCharacterReceived (l : Leg) (samples : List Level) (s : State) :
    Host.Outcome State Fault Refusal :=
  .next (outOfReset (replyCharacterReceived l samples) s)

/-- R63, R64. -/
def execReplyQuietEnd (l : Leg) (s : State) : Host.Outcome State Fault Refusal :=
  .next (outOfReset (replyQuietEnd l) s)

/-- R66, R67. -/
def execSetLeg (p : Port) (s : State) : Host.Outcome State Fault Refusal :=
  .next (outOfReset (carryOut Row.setLeg setLeg p) s)

/-- R68. -/
def execStartLeg (p : Port) (s : State) : Host.Outcome State Fault Refusal :=
  .next (outOfReset (carryOut Row.startLeg startLeg p) s)

/-- R68. -/
def execStopLeg (p : Port) (s : State) : Host.Outcome State Fault Refusal :=
  .next (outOfReset (carryOut Row.stopLeg stopLeg p) s)

/-- R69. -/
def execClearLegCounters (p : Port) (s : State) : Host.Outcome State Fault Refusal :=
  .next (outOfReset (carryOut Row.clearLegCounters clearLegCounters p) s)

/-- R71, R88. -/
def execReadLeg (p : Port) (s : State) : Host.Outcome State Fault Refusal :=
  .next (outOfReset (carryOut Row.readLeg readLeg p) s)

/-- R78. -/
def execDirect (p : Port) (s : State) : Host.Outcome State Fault Refusal :=
  .next (outOfReset (carryOut Row.direct direct p) s)

/-- R80. -/
def execReadDirect (p : Port) (s : State) : Host.Outcome State Fault Refusal :=
  .next (outOfReset (carryOut Row.readDirect readDirect p) s)

end Sys2Proof.Machine
end

