-- ==== Sys2Proof/Machine/Topology.lean ====
section
/-!
DEFINITION. Editing and reading the plant map: SET_UNIT, SET_NODE, READ_UNIT and READ_NODE (R91, R92,
R97, R99, R103, R105).
-/

namespace Sys2Proof.Machine

/-! ## Units (R91, R92) -/

/-- A feeding node or parent argument: node 0 to 63, or the root code 64 (R170). -/
def feedArg (n : Nat) : Option Feed :=
  if h : n < 64 then some (.node ⟨n, h⟩) else if n = 64 then some .root else none

/-- Whether a feed is the root of leg `l` or a node installed on leg `l`. -/
def State.feedOnLeg (s : State) (l : Leg) (f : Feed) : Bool :=
  match f with
  | .root => true
  | .node n =>
    match (s.node n).place with
    | some p => decide (p.leg = l)
    | none => false

/-- How many dead units a unit counts for: one if it is DEAD. -/
def State.deadOf (s : State) (u : UnitNo) : Nat := if s.isDead u then 1 else 0

/-- Installs a unit that is not installed (R91, R99). -/
def State.installUnit (s : State) (u : UnitNo) (f : Feed) : State :=
  let t := s.setUnit u { UnitEntry.uninstalled with feeding := some f }
  (State.rederive s (t.alongUnit u (Tally.gain 1 0))).refreshFeedPower u

/-- Moves an installed unit to another feeding place (R91, R99, R103). The outage alarms come first, then
NODE_POWER of the old place, then of the new (DESIGN CHOICE, log entry 17). -/
def State.moveUnit (s : State) (u : UnitNo) (old new : Feed) : State :=
  let t := s.alongUnit u (Tally.shed 1 (s.deadOf u))
  let t := t.setUnit u { t.unit u with feeding := some new }
  let t := t.alongUnit u (Tally.gain 1 (s.deadOf u))
  ((State.rederive s t).refreshPower (UnitNo.leg u) old).refreshPower (UnitNo.leg u) new

/-- A leg with a unit taken out of both queues, and out of the transaction in flight as its target (R92, R77, R65). -/
def LegState.forget (g : LegState) (u : LegUnit) : LegState :=
  let g := (g.removeDue u).dropOrder u
  match g.tx with
  | some tx => if tx.unit = u then { g with tx := some { tx with targetGone := true } } else g
  | none => g

/-- Uninstalls an installed unit fed by `f`, in the five steps of R92: the queues, the counts and outage
alarms, the power condition, the unit's own alarms, the entry. -/
def State.uninstallUnit (s : State) (u : UnitNo) (f : Feed) : State :=
  let l := UnitNo.leg u
  let t := s.setLeg l ((s.leg l).forget (UnitNo.onLeg u))
  let t := State.rederive s (t.alongUnit u (Tally.shed 1 (s.deadOf u)))
  let t :=
    if (t.unit u).powerAlarm then (t.setUnit u { t.unit u with powerAlarm := false }).refreshPower l f
    else t
  let t := ((t.clear .unitDead u.val).clear .unitTamper u.val).clear .orderFailed u.val
  t.setUnit u UnitEntry.uninstalled

/-- Whether every drop of a unit is VACANT. -/
def State.allVacant (s : State) (u : UnitNo) : Bool :=
  (dropsOf u).all fun d => decide ((s.sub d).state = .vacant)

/-- SET_UNIT(unit, installed, feeding node) (R91, R92). -/
def setUnit (_ : Port) (b : List Byte) (s : State) : Answer :=
  match toFin 128 (field b 0 1) with
  | none => refuse .badArgument s
  | some u =>
    if flagArg b 1 then
      match feedArg (field b 2 1) with
      | none => refuse .badArgument s
      | some f =>
        if !s.feedOnLeg (UnitNo.leg u) f then refuse .badArgument s
        else
          match (s.unit u).feeding with
          | none => answer .ok [] (s.installUnit u f)
          | some old => if old = f then answer .ok [] s else answer .ok [] (s.moveUnit u old f)
    else
      match (s.unit u).feeding with
      | none => answer .ok [] s
      | some f => if s.allVacant u then answer .ok [] (s.uninstallUnit u f) else refuse .wrongState s

/-! ## Nodes (R97) -/

/-- The installed child nodes of a place on leg `l`, ascending. -/
def State.childNodes (s : State) (l : Leg) (f : Feed) : List NodeNo :=
  (List.finRange 64).filter fun m => decide ((s.node m).place = some { leg := l, parent := f })

/-- The installed units a place on leg `l` feeds directly, ascending. -/
def State.fedUnits (s : State) (l : Leg) (f : Feed) : List UnitNo :=
  (List.finRange 128).filter fun u => decide (UnitNo.leg u = l ∧ (s.unit u).feeding = some f)

/-- Whether an installed node has child nodes or feeds units. -/
def State.nodeInUse (s : State) (n : NodeNo) : Bool :=
  (List.finRange 64).any (fun m =>
      match (s.node m).place with
      | some p => decide (p.parent = .node n)
      | none => false) ||
    (List.finRange 128).any fun u => decide ((s.unit u).feeding = some (.node n))

/-- Whether a parent is the node itself or a node below it (R97). -/
def State.closesLoop (s : State) (n : NodeNo) (f : Feed) : Bool := decide (n ∈ s.pathFrom f)

/-- The depth a place gives: 0 for the root (R96). -/
def State.feedDepth (s : State) (f : Feed) : Nat := (s.pathFrom f).length

/-- Whether node `n` under parent `f` leaves the node, or a node below it, at a depth above 8 (R97). -/
def State.tooDeep (s : State) (n : NodeNo) (f : Feed) : Bool :=
  let depth := s.feedDepth f + 1
  decide (8 < depth) ||
    (List.finRange 64).any fun m =>
      let up := s.pathFrom (.node m)
      (s.node m).place.isSome && decide (n ∈ up ∧ 8 < depth + up.idxOf n)

/-- Installs a node that is not installed (R97). -/
def State.installNode (s : State) (n : NodeNo) (place : NodePlace) : State :=
  s.setNode n { place := some place, tally := Tally.zero }

/-- Moves a node with its whole subtree (R97, R99). -/
def State.moveNode (s : State) (n : NodeNo) (old new : NodePlace) : State :=
  let x := (s.node n).tally
  let t := s.alongPath (s.pathFrom old.parent) old.leg (Tally.shed x.units x.dead)
  let t := t.setNode n { t.node n with place := some new }
  let t := t.alongPath (t.pathFrom new.parent) new.leg (Tally.gain x.units x.dead)
  State.rederive s t

/-- Uninstalls a node (R97). -/
def State.uninstallNode (s : State) (n : NodeNo) : State :=
  ((s.setNode n NodeEntry.uninstalled).clear .nodeOutage n.val).clear .nodePower n.val

/-- SET_NODE with installed yes, its arguments in range (R97). -/
def State.placeNode (s : State) (n : NodeNo) (l : Leg) (f : Feed) : Answer :=
  if !s.feedOnLeg l f || s.closesLoop n f || s.tooDeep n f then refuse .badArgument s
  else
    match (s.node n).place with
    | none => answer .ok [] (s.installNode n { leg := l, parent := f })
    | some old =>
      if old.leg ≠ l ∧ s.nodeInUse n then refuse .wrongState s
      else if old = { leg := l, parent := f } then answer .ok [] s
      else answer .ok [] (s.moveNode n old { leg := l, parent := f })

/-- SET_NODE(node, installed, leg, parent) (R97). -/
def setNode (_ : Port) (b : List Byte) (s : State) : Answer :=
  match toFin 64 (field b 0 1) with
  | none => refuse .badArgument s
  | some n =>
    if flagArg b 1 then
      match toFin 4 (field b 2 1), feedArg (field b 3 1) with
      | some l, some f => s.placeNode n l f
      | _, _ => refuse .badArgument s
    else if (s.node n).place = none then answer .ok [] s
    else if s.nodeInUse n then refuse .wrongState s
    else answer .ok [] (s.uninstallNode n)

/-! ## Reads (R105) -/

/-- READ_UNIT(unit) (R105). The last flags are one byte in the bits of R172 (DESIGN CHOICE, log entry 9). The order of a
unit that was uninstalled during it is not in flight for the unit installed again (DEDUCED, log entry 21). -/
def readUnit (_ : Port) (b : List Byte) (s : State) : Answer :=
  match toFin 128 (field b 0 1) with
  | none => refuse .badArgument s
  | some u =>
    let x := s.unit u
    let g := s.leg (UnitNo.leg u)
    let k := UnitNo.onLeg u
    answer .ok
      (yesNo (s.installed u) ++ identByte (x.feeding.map Feed.code) ++
        [byte x.liveness.code, byte x.misses] ++ optBytes 4 x.firstMiss ++
        optBytes 4 x.outageBegan ++
        (match x.images with
         | some im => 1 :: imagesBytes im
         | none => 0 :: List.replicate 32 0) ++
        [byte x.attempts] ++ yesNo x.held ++ [x.flags] ++ optBytes 1 x.supply ++
        yesNo x.powerAlarm ++ yesNo (decide (k ∈ g.dueQueue)) ++ yesNo (decide (k ∈ g.orderQueue)) ++
        yesNo (g.orderInFlight k) ++ yesNo (hasCoverOpen x.flags)) s

/-- The derived fields of a place in a reply (R96). -/
def Tally.bytes (t : Tally) : List Byte :=
  [byte t.units, byte t.dead] ++ yesNo t.out ++ yesNo t.onPowerAlarm

/-- The lists of child nodes and fed units in a reply (R105). -/
def State.belowBytes (s : State) (l : Leg) (f : Feed) : List Byte :=
  countedList ((s.childNodes l f).map fun n => [byte n.val]) ++
    countedList ((s.fedUnits l f).map fun u => [byte u.val])

/-- READ_NODE(place): a node 0 to 63, or 64 to 67 for the root of leg 0 to 3 (R105). A root and a node that is
not installed have depth 0 (DESIGN CHOICE, log entry 9). -/
def readNode (_ : Port) (b : List Byte) (s : State) : Answer :=
  let k := field b 0 1
  match toFin 64 k, toFin 4 (k - 64) with
  | some n, _ =>
    let x := s.node n
    (match x.place with
     | some p =>
       answer .ok
         (yesNo true ++ [byte p.leg.val, byte p.parent.code] ++ x.tally.bytes ++
           [byte (s.depth n)] ++ s.belowBytes p.leg (.node n)) s
     | none =>
       answer .ok (yesNo false ++ [0xFF, 0xFF] ++ x.tally.bytes ++ [0] ++ [0, 0]) s)
  | none, some l =>
    answer .ok
      (yesNo true ++ [byte l.val, 0xFF] ++ (s.root l).bytes ++ [0] ++ s.belowBytes l .root) s
  | none, none => refuse .badArgument s

/-! ## Meanings -/

/-- R91, R92. -/
def execSetUnit (p : Port) (s : State) : Host.Outcome State Fault Refusal :=
  .next (outOfReset (carryOut Row.setUnit setUnit p) s)

/-- R97. -/
def execSetNode (p : Port) (s : State) : Host.Outcome State Fault Refusal :=
  .next (outOfReset (carryOut Row.setNode setNode p) s)

/-- R105. -/
def execReadUnit (p : Port) (s : State) : Host.Outcome State Fault Refusal :=
  .next (outOfReset (carryOut Row.readUnit readUnit p) s)

/-- R105. -/
def execReadNode (p : Port) (s : State) : Host.Outcome State Fault Refusal :=
  .next (outOfReset (carryOut Row.readNode readNode p) s)

end Sys2Proof.Machine
end

