-- ==== Sys2Proof/Machine/Subscribers.lean ====
section
/-!
DEFINITION. The subscriber requests, the change path and READ_SUBSCRIBER (R3 to R16, R138).
-/

namespace Sys2Proof.Machine

/-! ## The change path (R5, R15) -/

/-- Runs the change path after a record was written; `before` is the desired image before the request:
recompute and fold, clear the order held when the desired image changed, evaluate the unit for its order
queue; the leg arbiter may then begin a transaction (R5, R15, R81). -/
def State.changePath (s : State) (d : Drop) (before : Image) : State :=
  let u := Drop.unit d
  let s := s.recompute d
  let s := if s.desired d = before then s else s.clearHeld u
  (s.evaluateOrder u).arbitrate (UnitNo.leg u)

/-- Writes a changed record, its catch-up close made first, and runs the change path (R5). A SET_TIERS with the
set the record holds makes the catch-up close of a lagging drop too (DEDUCED, log entry 20). -/
def State.changeRecord (s : State) (d : Drop) (f : Subscriber → Subscriber) : State :=
  let before := s.desired d
  let s := s.catchUp d true
  (s.setSub d (f (s.sub d))).changePath d before

/-! ## PROVISION, SET_TIERS, SUSPEND, RESUME, VACATE (R6 to R8, R11) -/

/-- The record that a PROVISION makes of a VACANT one (R6). -/
def Subscriber.provisioned (x : Subscriber) (account : BitVec 40) (tiers : Set8) (now : Option Nat) :
    Subscriber :=
  { x.resetAccounts with
    state := .active
    account := some account
    tiers := some tiers
    seg := { start := now, kind := .none, tiers := 0 } }

/-- PROVISION(drop, account, tiers) (R6). -/
def provision (_ : Port) (b : List Byte) (s : State) : Answer :=
  match dropArg b with
  | none => refuse .badArgument s
  | some d =>
    let account := field b 2 5
    let tiers : Set8 := byte (field b 7 1)
    if !isBcd 10 account then refuse .badDigit s
    else if tiers = 0 then refuse .badArgument s
    else if (s.sub d).state ≠ .vacant then refuse .wrongState s
    else if !s.installed (Drop.unit d) then refuse .wrongState s
    else
      let s := s.setCount (s.subscriberCount + 1)
      answer .ok []
        (s.changeRecord d fun x => x.provisioned (BitVec.ofNat 40 account) tiers s.now)

/-- SET_TIERS(drop, tiers) (R7). -/
def setTiers (_ : Port) (b : List Byte) (s : State) : Answer :=
  match dropArg b with
  | none => refuse .badArgument s
  | some d =>
    let tiers : Set8 := byte (field b 2 1)
    if tiers = 0 then refuse .badArgument s
    else if !(s.sub d).state.counts then refuse .wrongState s
    else answer .ok [] (s.changeRecord d fun x => { x with tiers := some tiers })

/-- SUSPEND(drop) (R8). -/
def suspend (_ : Port) (b : List Byte) (s : State) : Answer :=
  match dropArg b with
  | none => refuse .badArgument s
  | some d =>
    if (s.sub d).state ≠ .active then refuse .wrongState s
    else answer .ok [] (s.changeRecord d fun x => { x with state := .suspended })

/-- RESUME(drop) (R8). -/
def resume (_ : Port) (b : List Byte) (s : State) : Answer :=
  match dropArg b with
  | none => refuse .badArgument s
  | some d =>
    if (s.sub d).state ≠ .suspended then refuse .wrongState s
    else answer .ok [] (s.changeRecord d fun x => { x with state := .active })

/-- VACATE(drop) (R11). -/
def vacate (_ : Port) (b : List Byte) (s : State) : Answer :=
  match dropArg b with
  | none => refuse .badArgument s
  | some d =>
    if (s.sub d).state ≠ .disconnected then refuse .wrongState s
    else
      answer .ok []
        (s.changeRecord d fun x => { x with state := .vacant, account := none, tiers := none })

/-! ## DISCONNECT (R9, R10, R138) -/

/-- The FINAL record of a drop (R138). -/
def State.finalRecord (s : State) (d : Drop) (outageOpen : Bool) (now : Nat) : BillRecord :=
  let x := s.sub d
  { isCycle := false
    saturated := x.saturated
    outageOpen := outageOpen
    early := false
    drop := d
    account := x.account.getD 0
    state := x.state
    cycle := s.table.cycleNumber
    periodStart := s.table.cycleStart.getD 0
    periodEnd := now
    lines := tierLines s.table.currentRates x
    charges := x.charges }

/-- The record after a DISCONNECT: accounts emptied, account and tiers kept (R10). -/
def Subscriber.disconnected (x : Subscriber) : Subscriber :=
  { x.resetAccounts with state := .disconnected }

/-- Steps 1 to 4 of R10 at minute `now`: catch-up, fold, judgement, FINAL record, the record closed. -/
def State.closeAccount (s : State) (d : Drop) (now : Nat) : State :=
  let s := s.catchUp d true
  let wasOutage := decide ((s.sub d).seg.kind = .outage)
  let s := s.fold d now
  let outageOpen := wasOutage || (s.sub d).hasUnjudged
  let s := if outageOpen then s.judge d now else s
  let s := s.journalWrite (s.finalRecord d outageOpen now)
  (s.setSub d (s.sub d).disconnected).setCount (s.subscriberCount - 1)

/-- DISCONNECT(drop) (R9, R10): the reply carries the sequence number of the FINAL record. -/
def disconnect (_ : Port) (b : List Byte) (s : State) : Answer :=
  match dropArg b with
  | none => refuse .badArgument s
  | some d =>
    if !(s.sub d).state.counts then refuse .wrongState s
    else
      match s.now with
      | none => refuse .clockNotSet s
      | some now =>
        if s.margin < 1 then refuse .journalSpace s
        else
          let before := s.desired d
          let t := s.closeAccount d now
          answer .ok (beBytes 4 (t.table.journal.written - 1).toNat) (t.changePath d before)

/-! ## ADD_CHARGE and REISSUE (R12, R13) -/

/-- The most one-time charges a list holds (R1). -/
def chargeRoom : Nat := 4

/-- ADD_CHARGE(drop, code, amount) (R12). A charge changes neither the delivered set nor the desired
image, so of the change path only the evaluation for the order queue is left; on a drop that a sweep has not reached
it recomputes nothing either (R5, R15; DEDUCED, log entry 13). -/
def addCharge (_ : Port) (b : List Byte) (s : State) : Answer :=
  match dropArg b with
  | none => refuse .badArgument s
  | some d =>
    let amount := field b 3 3
    if !isBcd 6 amount then refuse .badDigit s
    else if !(s.sub d).state.counts then refuse .wrongState s
    else if !s.lagging d ∧ chargeRoom ≤ (s.sub d).charges.length then refuse .listFull s
    else
      let u := Drop.unit d
      let s := s.catchUp d true
      let x := s.sub d
      let list := x.charges ++ [{ code := byte (field b 2 1), amount := BitVec.ofNat 24 amount }]
      let s := s.setSub d { x with charges := list }
      answer .ok [byte list.length] ((s.evaluateOrder u).arbitrate (UnitNo.leg u))

/-- A unit joins the tail of its leg's order queue unless it is already queued (R13). -/
def State.forceOrder (s : State) (u : UnitNo) : State :=
  let g := s.leg (UnitNo.leg u)
  if UnitNo.onLeg u ∈ g.orderQueue then s
  else s.setLeg (UnitNo.leg u) { g with orderQueue := g.orderQueue ++ [UnitNo.onLeg u] }

/-- REISSUE(unit) (R13). -/
def reissue (_ : Port) (b : List Byte) (s : State) : Answer :=
  match toFin 128 (field b 0 1) with
  | none => refuse .badArgument s
  | some u =>
    if !s.installed u then refuse .wrongState s
    else answer .ok [] (((s.dropHold u).forceOrder u).arbitrate (UnitNo.leg u))

/-! ## READ_SUBSCRIBER (R16) -/

/-- Eight minute counts in a reply, tier 0 first. -/
def countsBytes (c : Vector Nat 8) : List Byte := (List.finRange 8).flatMap fun t => beBytes 4 (look c t)

/-- A subscriber record in a reply, its fields in the order of R1. The eight service counts come first, then the eight
credited, then the eight unjudged: R16 names three counts for each tier and R1 three fields of one count per tier, and
neither says how a reply groups them (DESIGN CHOICE, log entry 9). -/
def Subscriber.bytes (x : Subscriber) : List Byte :=
  [byte x.state.code] ++ optBytes 5 (x.account.map BitVec.toNat) ++
    optBytes 1 (x.tiers.map BitVec.toNat) ++ beBytes 2 x.cycle.toNat ++ optBytes 4 x.seg.start ++
    [byte x.seg.kind.code, x.seg.tiers] ++ countsBytes x.service ++ countsBytes x.credited ++
    countsBytes x.unjudged ++ yesNo x.saturated ++ countedList (x.charges.map Charge.bytes)

/-- A port image that may be absent in a reply. -/
def optImageBytes (o : Option Image) : List Byte :=
  match o with
  | some im => 1 :: im.bytes
  | none => [0, 0, 0]

/-- READ_SUBSCRIBER(drop) (R16). -/
def readSubscriber (_ : Port) (b : List Byte) (s : State) : Answer :=
  match dropArg b with
  | none => refuse .badArgument s
  | some d =>
    let u := Drop.unit d
    let x := s.sub d
    answer .ok
      (x.bytes ++ (s.desired d).bytes ++ optImageBytes (s.confirmedImage d) ++ [x.seg.tiers] ++
        yesNo (decide (UnitNo.onLeg u ∈ (s.leg (UnitNo.leg u)).orderQueue)) ++
        yesNo (s.unit u).held ++ [byte (s.unit u).attempts]) s

/-! ## Meanings -/

/-- R6. -/
def execProvision (p : Port) (s : State) : Host.Outcome State Fault Refusal :=
  .next (outOfReset (carryOut Row.provision provision p) s)

/-- R7. -/
def execSetTiers (p : Port) (s : State) : Host.Outcome State Fault Refusal :=
  .next (outOfReset (carryOut Row.setTiers setTiers p) s)

/-- R8. -/
def execSuspend (p : Port) (s : State) : Host.Outcome State Fault Refusal :=
  .next (outOfReset (carryOut Row.suspend suspend p) s)

/-- R8. -/
def execResume (p : Port) (s : State) : Host.Outcome State Fault Refusal :=
  .next (outOfReset (carryOut Row.resume resume p) s)

/-- R9, R10. -/
def execDisconnect (p : Port) (s : State) : Host.Outcome State Fault Refusal :=
  .next (outOfReset (carryOut Row.disconnect disconnect p) s)

/-- R11. -/
def execVacate (p : Port) (s : State) : Host.Outcome State Fault Refusal :=
  .next (outOfReset (carryOut Row.vacate vacate p) s)

/-- R12. -/
def execAddCharge (p : Port) (s : State) : Host.Outcome State Fault Refusal :=
  .next (outOfReset (carryOut Row.addCharge addCharge p) s)

/-- R13. -/
def execReissue (p : Port) (s : State) : Host.Outcome State Fault Refusal :=
  .next (outOfReset (carryOut Row.reissue reissue p) s)

/-- R16. -/
def execReadSubscriber (p : Port) (s : State) : Host.Outcome State Fault Refusal :=
  .next (outOfReset (carryOut Row.readSubscriber readSubscriber p) s)

end Sys2Proof.Machine
end

