-- ==== Sys2Proof/Machine/LineUp.lean ====
section
/-!
DEFINITION. The Line-Up Unit: editing and reading the line-ups, the activation context, the swap and the
drop sweep (R19 to R35).
-/

namespace Sys2Proof.Machine

/-! ## The swap (R30, R31) -/

/-- Whether two entries are both assigned with the same primary and the same fallback source (R31). -/
def sameSources (x y : SlotEntry) : Bool :=
  match x, y with
  | some a, some b => decide (a.primary = b.primary ∧ a.fallback = b.fallback)
  | _, _ => false

/-- Derives slot `i` at the swap from its state before when its sources are those of the line-up `old`,
and from no previous state otherwise (R31). -/
def State.swapSlot (old : LineUp) (s : State) (i : Slot) : State :=
  let e := look s.table.active i
  let before := if sameSources (look old i) e then some (s.slot i).state else none
  s.enterSlot i (s.deriveSlot e before)

/-- SOURCE_LOSS for every LOST source that the active line-up names (R31, R43). -/
def State.raiseNamedLosses (s : State) : State :=
  forEach
    ((List.finRange 64).filter fun k =>
      decide ((s.source k).state = .lost ∧ s.slotsNaming k ≠ []))
    (fun t k => t.raise .sourceLoss k.val (t.readingInfo k)) s

/-- A composition as an alarm info: the set of tiers in the low byte (R175). -/
def tiersInfo (x : Set8) : BitVec 16 := x.zeroExtend 16

/-- MIXED_GROUP raised or cleared for every group in turn (R24). -/
def State.mixedAlarms (s : State) : State :=
  forEach (List.finRange 8)
    (fun t g =>
      t.alarmWhile (mixedGroup t.composition g) .mixedGroup g.val (tiersInfo (look t.composition g))) s

/-- Steps 1 and 2 of R30 and the derivation of the slots. -/
def State.swapTables (s : State) : State :=
  let t := s.setTable { s.table with active := s.table.pendingLineup }
  forEach (List.finRange 48) (State.swapSlot s.table.active) t

/-- The swap: the pending line-up is in force, and the sweep begins at drop 0 (R30). -/
def State.swap (s : State) : State :=
  let previous := s.composition
  let t := s.swapTables.raiseNamedLosses
  let t := (t.setComposition (compositionOf t.table.active)).mixedAlarms
  (t.setActivation (.sweeping 0 previous)).startMatrix

/-- The arrival of a scheduled minute at the minute count `m`: the swap, or the deferral while lock 0 has a
holder (R28). A claim or a release of lock 0 that was taken first has been made when it arrives: SET_CLOCK waits for its
turn among the requests, and a minute boundary finds the work of those taken before it done (log entry 33). -/
def State.arrive (s : State) (m : Nat) : State :=
  match s.table.activation with
  | .scheduled k =>
    if k ≤ m then
      if (s.lock 0).holder = none then s.swap
      else s.setActivation (.deferred k)
    else s
  | _ => s

/-- The swap that a release of lock 0 makes in DEFERRED; none from SHUTDOWN on (R29). -/
def State.deferredSwap (s : State) : State :=
  match s.table.activation, s.power with
  | .deferred _, .normal => s.swap
  | _, _ => s

/-! ## The sweep (R32, R33, R35) -/

/-- Whether the activation changed a drop's desired image (R33). -/
def State.activationChanged (s : State) (d : Drop) (previous : Composition) : Bool :=
  decide (s.desired d ≠ desiredImage previous (s.sub d))

/-- Steps 1 to 3 of the sweep's visit to a drop (R32). -/
def State.sweepDrop (s : State) (d : Drop) (previous : Composition) : State :=
  let u := Drop.unit d
  let s := s.recompute d
  let s := if s.activationChanged d previous then s.dropHold u else s
  (s.evaluateOrder u).arbitrate (UnitNo.leg u)

/-- SWEEP_VISIT: the sweep visits the drop at its position and advances, and ends after drop 2047 (R32,
R35); it makes no visit from SHUTDOWN on (R179). -/
def sweepVisit (s : State) : State :=
  match s.table.activation, s.power with
  | .sweeping d previous, .normal =>
    let s := s.sweepDrop d previous
    if h : d.val + 1 < 2048 then
      s.setActivation (.sweeping ⟨d.val + 1, h⟩ previous)
    else
      (s.setActivation .idle).flagRole .activation .manager
  | _, _ => s

/-! ## Requests -/

/-- A fallback argument: FF hex absent, else a source 0 to 63 (R20, R170). -/
def fallbackArg (n : Nat) : Option (Option Source) :=
  if n = 0xFF then some none else (toFin 64 n).map some

/-- The entry that an EDIT_SLOT body spells after its slot, or none for an argument out of range (R20). -/
def entryArg (b : List Byte) : Option SlotEntry :=
  if flagArg b 1 then
    match toFin 64 (field b 2 1), fallbackArg (field b 3 1), toFin 8 (field b 4 1) with
    | some primary, some fallback, some tier =>
      if fallback = some primary then none
      else
        some
          (some
            { primary := primary
              fallback := fallback
              tier := tier
              autoRevert := flagArg b 5
              muted := flagArg b 6 })
    | _, _, _ => none
  else some none

/-- EDIT_SLOT(slot, assigned, primary, fallback, tier, auto-revert, muted) (R20). -/
def editSlot (_ : Port) (b : List Byte) (s : State) : Answer :=
  match toFin 48 (field b 0 1), entryArg b with
  | some i, some e =>
    answer .ok []
      (s.setTable { s.table with pendingLineup := put s.table.pendingLineup i e })
  | _, _ => refuse .badArgument s

/-- COPY_ACTIVE_TO_PENDING (R21). -/
def copyActiveToPending (_ : Port) (_ : List Byte) (s : State) : Answer :=
  answer .ok [] (s.setTable { s.table with pendingLineup := s.table.active })

/-- What SCHEDULE_ACTIVATION asks for. -/
inductive WhenArg where
  | now
  | minute (m : Nat)
deriving DecidableEq, Repr

/-- The argument of SCHEDULE_ACTIVATION: a minute that may be absent, absent for NOW (R170). A presence byte
other than 00 or 01 hex is out of range, and with presence byte 00 hex the value bytes are disregarded, zeros
or not (DEDUCED, log entry 26). -/
def whenArg (b : List Byte) : Option WhenArg :=
  match field b 0 1 with
  | 0 => some .now
  | 1 => some (.minute (field b 1 4))
  | _ => none

/-- The state checks of SCHEDULE_ACTIVATION and what it does in IDLE, SCHEDULED and DEFERRED (R26). -/
def State.schedule (s : State) (w : WhenArg) : Answer :=
  match w, s.now with
  | .now, _ => answer .started [] s.swap
  | .minute _, none => refuse .clockNotSet s
  | .minute m, some now =>
    if m ≤ now then answer .started [] s.swap
    else answer .ok [] (s.setActivation (.scheduled m))

/-- SCHEDULE_ACTIVATION(when) (R26). -/
def scheduleActivation (_ : Port) (b : List Byte) (s : State) : Answer :=
  match whenArg b, s.table.activation with
  | none, _ => refuse .badArgument s
  | some _, .sweeping _ _ => refuse .busy s
  | some w, _ => s.schedule w

/-- CANCEL_ACTIVATION (R27). -/
def cancelActivation (_ : Port) (_ : List Byte) (s : State) : Answer :=
  match s.table.activation with
  | .idle => refuse .wrongState s
  | .sweeping _ _ => refuse .busy s
  | _ => answer .ok [] (s.setActivation .idle)

/-- A slot entry in a reply, its fields in the order of R19. -/
def entryBytes (e : SlotEntry) : List Byte :=
  match e with
  | some g =>
    yesNo true ++ [byte g.primary.val] ++ identByte (g.fallback.map Fin.val) ++
      optBytes 1 (some g.tier.val) ++ yesNo g.autoRevert ++ yesNo g.muted
  | none => yesNo false ++ [0xFF, 0xFF] ++ optBytes 1 none ++ yesNo false ++ yesNo false

/-- The 48 entries of a line-up in a reply. -/
def lineupBytes (x : LineUp) : List Byte := (List.finRange 48).flatMap fun i => entryBytes (look x i)

/-- The compositions of the eight groups, then whether each is mixed, in a reply (R22; their grouping is a
DESIGN CHOICE, log entry 9). -/
def compositionBytes (c : Composition) : List Byte :=
  ((List.finRange 8).map fun g => look c g) ++ (List.finRange 8).flatMap fun g => yesNo (mixedGroup c g)

/-- READ_LINEUP(table): the active table is 0 and the pending table 1 (R22, R170). -/
def readLineup (_ : Port) (b : List Byte) (s : State) : Answer :=
  match field b 0 1 with
  | 0 => answer .ok (lineupBytes s.table.active ++ compositionBytes s.composition) s
  | 1 => answer .ok (lineupBytes s.table.pendingLineup) s
  | _ => refuse .badArgument s

/-! ## Meanings -/

/-- R32, R33, R35. -/
def execSweepVisit (s : State) : Host.Outcome State Fault Refusal := .next (outOfReset sweepVisit s)

/-- R20. -/
def execEditSlot (p : Port) (s : State) : Host.Outcome State Fault Refusal :=
  .next (outOfReset (carryOut Row.editSlot editSlot p) s)

/-- R21. -/
def execCopyActiveToPending (p : Port) (s : State) : Host.Outcome State Fault Refusal :=
  .next (outOfReset (carryOut Row.copyActiveToPending copyActiveToPending p) s)

/-- R26. -/
def execScheduleActivation (p : Port) (s : State) : Host.Outcome State Fault Refusal :=
  .next (outOfReset (carryOut Row.scheduleActivation scheduleActivation p) s)

/-- R27. -/
def execCancelActivation (p : Port) (s : State) : Host.Outcome State Fault Refusal :=
  .next (outOfReset (carryOut Row.cancelActivation cancelActivation p) s)

/-- R22. -/
def execReadLineup (p : Port) (s : State) : Host.Outcome State Fault Refusal :=
  .next (outOfReset (carryOut Row.readLineup readLineup p) s)

end Sys2Proof.Machine
end

