-- ==== Sys2Proof/Machine/Locks.lean ====
section
/-!
DEFINITION. The Lock Table: claims, the pass, withdrawal, forced release, and the release of a port's
locks at its detach (R154 to R162).
-/

namespace Sys2Proof.Machine

/-! ## The pass (R156) -/

/-- Steps 2 to 4 of the pass: the lock becomes free, or its first waiter becomes holder with LOCK attention. -/
def State.handOver (s : State) (n : LockNo) : State :=
  match (s.lock n).waiters with
  | [] => s.setLock n Lock.free
  | p :: rest => (s.setLock n { holder := some p, waiters := rest }).flag .lock p

/-- The pass of a lock that its holder gives up or loses; for lock 0 a deferred swap comes first (R29, R156). -/
def State.pass (s : State) (n : LockNo) : State :=
  (if n = 0 then s.deferredSwap else s).handOver n

/-- A port taken out of a waiter list; the ports behind it move up (R157, R160). -/
def Lock.without (x : Lock) (p : Port) : Lock := { x with waiters := x.waiters.filter (· ≠ p) }

/-- Step 1 of R160: a port leaves every waiter list. -/
def State.stopWaiting (s : State) (p : Port) : State :=
  { s with locks := tabulate 19 fun n => (s.lock n).without p }

/-- Releases every lock a port holds, in ascending lock number, with the pass for each (R160, R162). -/
def State.releaseAll (s : State) (p : Port) : State :=
  forEach (List.finRange 19) (fun t n => if t.holds p n then t.pass n else t) s

/-! ## Requests -/

/-- A holder in a reply: the port, or none as FF hex (R170). -/
def holderByte (h : Option Port) : List Byte := identByte (h.map Fin.val)

/-- A free lock is granted to a port; a port that was detached after its request was taken gains none by it
(R154, R166; log entry 7). -/
def State.grant (s : State) (n : LockNo) (p : Port) : State :=
  if s.served p then s.setLock n { s.lock n with holder := some p } else s

/-- A port joins the tail of a waiter list; a port that was detached after its request was taken joins none
by it (R154, R166; log entry 7). -/
def State.queueFor (s : State) (n : LockNo) (p : Port) : State :=
  if s.served p then s.setLock n { s.lock n with waiters := (s.lock n).waiters ++ [p] } else s

/-- The reply OK of a claim: the lock and its holder, which is the requester (R155). -/
def grantedBody (n : LockNo) (p : Port) : List Byte := [byte n.val, byte p.val]

/-- CLAIM(lock) (R155). -/
def claim (p : Port) (b : List Byte) (s : State) : Answer :=
  match toFin 19 (field b 0 1) with
  | none => refuse .badArgument s
  | some n =>
    match (s.lock n).holder with
    | none => answer .ok (grantedBody n p) (s.grant n p)
    | some h => if h = p then answer .ok (grantedBody n p) s else answer .held (holderByte (some h)) s

/-- CLAIM_QUEUED(lock): the reply QUEUED carries the position in the waiter list, 1 for the head (R155). -/
def claimQueued (p : Port) (b : List Byte) (s : State) : Answer :=
  match toFin 19 (field b 0 1) with
  | none => refuse .badArgument s
  | some n =>
    let x := s.lock n
    match x.holder with
    | none => answer .ok (grantedBody n p) (s.grant n p)
    | some h =>
      if h = p then answer .ok (grantedBody n p) s
      else if p ∈ x.waiters then answer .queued [byte (x.waiters.idxOf p + 1)] s
      else answer .queued [byte (x.waiters.length + 1)] (s.queueFor n p)

/-- RELEASE(lock): the reply carries the holder after the pass (R156). -/
def release (p : Port) (b : List Byte) (s : State) : Answer :=
  match toFin 19 (field b 0 1) with
  | none => refuse .badArgument s
  | some n =>
    if s.holds p n then
      let t := s.pass n
      answer .ok (holderByte (t.lock n).holder) t
    else refuse .notHolder s

/-- WITHDRAW(lock) (R157). -/
def withdraw (p : Port) (b : List Byte) (s : State) : Answer :=
  match toFin 19 (field b 0 1) with
  | none => refuse .badArgument s
  | some n =>
    if p ∈ (s.lock n).waiters then answer .ok [] (s.setLock n ((s.lock n).without p))
    else refuse .wrongState s

/-- FORCE_RELEASE(lock): the reply carries the former holder and the holder after the pass (R158). -/
def forceRelease (_ : Port) (b : List Byte) (s : State) : Answer :=
  match toFin 19 (field b 0 1) with
  | none => refuse .badArgument s
  | some n =>
    match (s.lock n).holder with
    | none => refuse .wrongState s
    | some h =>
      let t := s.pass n
      answer .ok (holderByte (some h) ++ holderByte (t.lock n).holder) t

/-- A lock in READ_LOCKS: its holder, then its waiters, head first (R161). -/
def Lock.bytes (x : Lock) : List Byte :=
  holderByte x.holder ++ countedList (x.waiters.map fun p => [byte p.val])

/-- READ_LOCKS (R161). -/
def readLocks (p : Port) (_ : List Byte) (s : State) : Answer :=
  answer .ok (((List.finRange 19).flatMap fun n => (s.lock n).bytes) ++ [byte p.val]) s

/-! ## Meanings -/

/-- R155. -/
def execClaim (p : Port) (s : State) : Host.Outcome State Fault Refusal :=
  .next (outOfReset (carryOut Row.claim claim p) s)

/-- R155. -/
def execClaimQueued (p : Port) (s : State) : Host.Outcome State Fault Refusal :=
  .next (outOfReset (carryOut Row.claimQueued claimQueued p) s)

/-- R156. -/
def execRelease (p : Port) (s : State) : Host.Outcome State Fault Refusal :=
  .next (outOfReset (carryOut Row.release release p) s)

/-- R157. -/
def execWithdraw (p : Port) (s : State) : Host.Outcome State Fault Refusal :=
  .next (outOfReset (carryOut Row.withdraw withdraw p) s)

/-- R158. -/
def execForceRelease (p : Port) (s : State) : Host.Outcome State Fault Refusal :=
  .next (outOfReset (carryOut Row.forceRelease forceRelease p) s)

/-- R161. -/
def execReadLocks (p : Port) (s : State) : Host.Outcome State Fault Refusal :=
  .next (outOfReset (carryOut Row.readLocks readLocks p) s)

end Sys2Proof.Machine
end

