-- ==== Sys2Proof/Machine/Alarms.lean ====
section
/-!
DEFINITION. The requests on the Alarm List: ACK_ALARM and READ_ALARMS (R114, R116, R175).
-/

namespace Sys2Proof.Machine

/-- The alarm kind of a code (R175). -/
def alarmKindArg (n : Nat) : Option AlarmKind := AlarmKind.all[n]?

/-- An entry's state after an acknowledgement, or a mark that it has been removed: a state that may be
absent (R114, R170; DESIGN CHOICE, log entry 9). -/
def ackBody (e : Option AlarmEntry) : List Byte := optBytes 1 (e.map fun x => x.state.code)

/-- ACK_ALARM(kind, object) (R114). -/
def ackAlarm (_ : Port) (b : List Byte) (s : State) : Answer :=
  match alarmKindArg (field b 0 1) with
  | none => refuse .badArgument s
  | some k =>
    let o := field b 1 2
    if k.objects ≤ o then refuse .badArgument s
    else
      match s.alarms.find k o with
      | none => refuse .badArgument s
      | some e => answer .ok (ackBody e.ack) (s.ackAlarm k o)

/-- An alarm entry in 18 bytes (R175). -/
def AlarmEntry.bytes (e : AlarmEntry) : List Byte :=
  [byte e.kind.code] ++ beBytes 2 e.object ++ [byte e.kind.severityCode] ++ optBytes 4 e.raised ++
    optBytes 4 e.cleared ++ [byte e.state.code] ++ beBytes 2 e.info.toNat ++ [byte e.bounce]

/-- The heading of a page: count, change number, unlisted count and overflow flag (R116, R175). R107 names the flag set
or clear, which R170 gives no type in a body: that its byte is a yes/no field, 01 hex for set, is the model's choice
(DESIGN CHOICE, log entry 9). -/
def AlarmList.heading (a : AlarmList) : List Byte :=
  [byte a.entries.length] ++ beBytes 2 a.change.toNat ++ beBytes 2 a.unlisted ++ yesNo a.overflow

/-- The most entries a page carries (R116). -/
def alarmPage : Nat := 12

/-- READ_ALARMS(first, clear-overflow) (R116). -/
def readAlarms (_ : Port) (b : List Byte) (s : State) : Answer :=
  let first := field b 0 1
  if alarmRoom ≤ first then refuse .badArgument s
  else
    answer .ok
      (s.alarms.heading ++ ((s.alarms.entries.drop first).take alarmPage).flatMap AlarmEntry.bytes)
      (if flagArg b 1 then s.setAlarms { s.alarms with overflow := false } else s)

/-! ## Meanings -/

/-- R114. -/
def execAckAlarm (p : Port) (s : State) : Host.Outcome State Fault Refusal :=
  .next (outOfReset (carryOut Row.ackAlarm ackAlarm p) s)

/-- R116. -/
def execReadAlarms (p : Port) (s : State) : Host.Outcome State Fault Refusal :=
  .next (outOfReset (carryOut Row.readAlarms readAlarms p) s)

end Sys2Proof.Machine
end

