-- ==== Sys2Proof/Machine/Clock.lean ====
section
/-!
DEFINITION. The Service Clock: what it does at a minute boundary, SET_CLOCK with its consequences, READ_CLOCK (R177,
R178), and the passage of time between commands (log entry 5).
-/

namespace Sys2Proof.Machine

/-- The largest minute count (R177). -/
def lastMinute : Nat := 4294967295

/-- CYCLE_OVERDUE when the count is above the limit (step 6 of R178, R140). -/
def State.checkOverdue (s : State) : State := if s.overdue then s.raiseOverdue else s

/-- CYCLE_OVERDUE when the count has advanced from `old`, at or below the limit, to above it (R140). -/
def State.passOverdue (s : State) (old : Nat) : State :=
  match s.table.cycleStart with
  | some start => if old ≤ overdueLimit start then s.checkOverdue else s
  | none => s

/-- Whether the clock takes a minute boundary when its seconds run on (R177): none while it is NOT_SET, and none from
SHUTDOWN on. The seconds pass 59 only from 59, so none follows a forward jump before its seconds have run up again
(R178; log entry 5). -/
def State.minuteEnds (s : State) : Bool :=
  s.clock.minute.isSome && decide (s.power = .normal) && decide (59 ≤ s.clock.seconds)

/-- The minute count rises to `m + 1`, which is the arrival of an activation scheduled for it (R177, R28). An arriving
activation comes before CYCLE_OVERDUE, as R178 has it at a setting (DESIGN CHOICE, log entry 17). -/
def State.countMinute (s : State) (m : Nat) : State :=
  (((s.setClock { minute := some (m + 1), seconds := 0, tenths := 0, holdBack := 0 }).setLastKnown (m + 1)).arrive
    (m + 1)).passOverdue m

/-- What the clock does at a minute boundary, if it takes one (R177): the hold-back count falls, or the minute count
rises as far as it goes. -/
def State.turnMinute (s : State) : State :=
  if s.minuteEnds then
    let c := { s.clock with seconds := 0, tenths := 0 }
    if 0 < c.holdBack then s.setClock { c with holdBack := c.holdBack - 1 }
    else
      match c.minute with
      | some m => if m < lastMinute then s.countMinute m else s.setClock c
      | none => s
  else s

/-! ## SET_CLOCK (R178) -/

/-- Step 2: first-miss and outage-began minutes that misses left absent (R95). -/
def UnitEntry.complete (m : Nat) (x : UnitEntry) : UnitEntry :=
  if x.feeding.isSome then
    { x with
      firstMiss := if 1 ≤ x.misses then some (x.firstMiss.getD m) else x.firstMiss
      outageBegan := if x.liveness = .dead then some (x.outageBegan.getD m) else x.outageBegan }
  else x

/-- Step 3: an absent segment start takes the minute set (R122). -/
def Subscriber.startAt (m : Nat) (x : Subscriber) : Subscriber :=
  { x with seg := { x.seg with start := some (x.seg.start.getD m) } }

/-- Steps 2 to 4: the units, the segments and the cycle start (R95, R122, R130). -/
def TableMemory.beginAt (m : Nat) (t : TableMemory) : TableMemory :=
  { t with
    units := tabulate 128 fun u => (look t.units u).complete m
    subs := tabulate 2048 fun d => (look t.subs d).startAt m
    cycleStart := some (t.cycleStart.getD m) }

/-- The clock set to minute `m`: RUNNING, seconds 0, hold-back 0, and the last-known minute written. -/
def State.clockAt (s : State) (m : Nat) : State :=
  (s.setClock { minute := some m, seconds := 0, tenths := 0, holdBack := 0 }).setLastKnown m

/-- A setting from NOT_SET to RUNNING, with its six consequences in order. -/
def State.firstSetting (s : State) (m : Nat) : State :=
  let s := (s.clockAt m).clear .clockNotSet 0
  ((s.setTable (s.table.beginAt m)).arrive m).checkOverdue

/-- A forward jump: steps 5 and 6 only. -/
def State.jumpTo (s : State) (m : Nat) : State := ((s.clockAt m).arrive m).checkOverdue

/-- A held-back setting: the minute count and the seconds stay. -/
def State.holdBackBy (s : State) (m n : Nat) : State :=
  (s.setClock { s.clock with holdBack := n }).setLastKnown m

/-- A minute in a reply that may be absent. -/
def minuteBytes (m : Option Nat) : List Byte := optBytes 4 m

/-- The clock state code: NOT_SET 0, RUNNING 1 (R177). -/
def Clock.stateByte (c : Clock) : Byte := if c.minute.isSome then 1 else 0

/-- The reply of SET_CLOCK: the state, the minute count and the hold-back count (R178). The minute is always present
here, and is sent as 4 bytes without the presence byte that R170 gives a minute (DESIGN CHOICE, log entry 9). -/
def clockReply (s : State) : Answer :=
  answer .ok ([s.clock.stateByte] ++ beBytes 4 (s.clock.minute.getD 0) ++ [byte s.clock.holdBack]) s

/-- SET_CLOCK(minute) (R178). -/
def setClock (_ : Port) (b : List Byte) (s : State) : Answer :=
  let m := field b 0 4
  match s.clock.minute with
  | none => if s.table.lastKnown ≤ m then clockReply (s.firstSetting m) else refuse .clockBackward s
  | some now =>
    if now ≤ m then clockReply (s.jumpTo m)
    else if now - m ≤ 60 then clockReply (s.holdBackBy now (now - m))
    else refuse .clockBackward s

/-- READ_CLOCK (R177). The seconds are sent as 0 while the clock is NOT_SET and has none (DESIGN CHOICE, log entry
9). The last-known minute is never absent, and R177 does not say whether it carries the presence byte that R170 gives a
minute: that it is sent as 4 bytes without one is the model's choice (DESIGN CHOICE, log entry 9). -/
def readClock (_ : Port) (_ : List Byte) (s : State) : Answer :=
  let c := s.clock
  answer .ok
    ([c.stateByte] ++ minuteBytes c.minute ++ [byte c.seconds, byte c.holdBack] ++
      beBytes 4 s.table.lastKnown) s

/-! ## Time between commands (log entry 5) -/

/-- A tenth of a second of the running clock. The seconds wait at 59.9 for the minute boundary. -/
def Clock.tick (c : Clock) : Clock :=
  if c.tenths < 9 then { c with tenths := c.tenths + 1 }
  else if c.seconds < 59 then { c with seconds := c.seconds + 1, tenths := 0 }
  else c

/-- A tenth of a second of a hold-off that runs. It waits at its last tenth for its expiry. -/
def SourceRuntime.tick (x : SourceRuntime) : SourceRuntime :=
  { x with holdOff := x.holdOff.map fun n => if 1 < n then n - 1 else n }

/-- 100 ms pass with no command: the seconds and the hold-offs run. -/
def idleTick (s : State) : State :=
  { s with
    clock := if s.clock.minute.isSome ∧ s.power = .normal then s.clock.tick else s.clock
    sources := s.sources.map SourceRuntime.tick }

/-! ## Meanings -/

/-- R178. -/
def execSetClock (p : Port) (s : State) : Host.Outcome State Fault Refusal :=
  .next (outOfReset (carryOut Row.setClock setClock p) s)

/-- R177. -/
def execReadClock (p : Port) (s : State) : Host.Outcome State Fault Refusal :=
  .next (outOfReset (carryOut Row.readClock readClock p) s)

end Sys2Proof.Machine
end

