-- ==== Sys2Proof/Machine/Station.lean ====
section
/-!
DEFINITION. The Station Port Unit: frames fetched, attach, requests that are no request of the table, attention,
and READ_STATUS (R163 to R169).
-/

namespace Sys2Proof.Machine

/-! ## The fetch (R164, R165) -/

/-- The tag of the request a port is carrying out. -/
def PortState.executingTag (x : PortState) : Byte :=
  match x.taken.find? Taken.live with
  | some t => frameTag t.frame
  | none => 0

/-- The reply that a fetch gives: the held reply, or one made at the fetch and not held. -/
def PortState.fetched (x : PortState) : Reply :=
  match x.phase, x.reply with
  | .replyReady, some r => r
  | .executing, _ => ⟨x.executingTag, .notReady, []⟩
  | _, _ => ⟨0, .noReply, []⟩

/-- `n` bytes of data out that carry a frame, and FF hex after it. -/
def drive (n : Nat) (frame : List Byte) : List Byte :=
  frame.take n ++ List.replicate (n - frame.length) 0xFF

/-- What a made fetch leaves: the overrun flag clear, and a held reply given. -/
def PortState.made (x : PortState) : PortState :=
  match x.phase with
  | .replyReady => { x with overrun := false, reply := none, phase := .idle }
  | _ => { x with overrun := false }

/-- A fetch selection in which `n` bytes are clocked out after the first. The fetch is made when the last
CRC byte of the frame was among them. -/
def PortState.fetch (x : PortState) (n : Nat) : PortState :=
  match x.phase with
  | .detached => { x with dataOut := List.replicate n 0xFF }
  | _ =>
    let frame := replyFrame x.fetched x.status
    if frame.length ≤ n then { x.made with dataOut := drive n frame }
    else { x with dataOut := drive n frame }

/-- FETCH (R165). -/
def fetch (p : Port) (n : Nat) (s : State) : State := s.setPort p ((s.port p).fetch n)

/-! ## Attach (R166) -/

/-- A port as an attach leaves it. -/
def PortState.attach (x : PortState) : PortState :=
  { x with phase := .idle, reply := none, overrun := false, flags := 0, mask := allFlags }

/-- ATTACH (R166). -/
def attach (p : Port) (s : State) : State :=
  if s.attached p then s else s.setPort p (s.port p).attach

/-! ## Requests that are none of the table's (R167) -/

/-- The result of a taken frame that is no request of the table, if it is none. -/
def badRequest (frame : List Byte) : Option Result :=
  match checkFrame frame with
  | .badFrame => some .badFrame
  | .unknown => some .unknownRequest
  | .request _ => none

/-- The answer to a frame that is no request of the table: its result, or POWER_FAIL in SHUTDOWN and SAFE (R167). -/
def State.answerBad (s : State) (r : Result) : Answer := refuse (if s.power = .normal then r else .powerFail) s

/-- UNKNOWN_REQUEST: the oldest request taken, when it fails check 1 or 2 of R167, is answered; in SHUTDOWN
and SAFE the answer is POWER_FAIL. Where a request taken before it waits at another port, the event does not occur
(log entries 6 and 33). -/
def unknownRequest (p : Port) (s : State) : State :=
  match (s.port p).taken with
  | [] => s
  | t :: _ =>
    match badRequest t.frame, t.done with
    | none, _ => s
    | some _, some r => s.placeReply p t.live r
    | some r, none => if s.isOldest t then s.placeReply p t.live ((s.answerBad r).replyTo t) else s

/-! ## Requests -/

/-- The scheduled minute that READ_STATUS reports (R25). -/
def Activation.minute (a : Activation) : Option Nat :=
  match a with
  | .scheduled m => some m
  | .deferred m => some m
  | _ => none

/-- The sweep position that READ_STATUS reports: 0 outside SWEEPING (R25). -/
def Activation.position (a : Activation) : Nat :=
  match a with
  | .sweeping d _ => d
  | _ => 0

/-- The journal in READ_STATUS. -/
def State.journalBytes (s : State) : List Byte :=
  let j := s.table.journal
  beBytes 4 j.written.toNat ++ beBytes 4 j.released.toNat ++ beBytes 2 j.held ++ beBytes 2 j.free ++
    beBytes 2 s.table.close.reserved ++ beBytes 2 j.threshold ++ yesNo s.spaceLow

/-- The status body: one picture of the controller for a requesting port (R169). -/
def State.statusBody (s : State) (p : Port) : List Byte :=
  let t := s.table
  [byte s.startKind.code, s.clock.stateByte] ++ minuteBytes s.now ++ beBytes 2 s.subscriberCount ++
    s.journalBytes ++ [byte t.activation.code] ++ minuteBytes t.activation.minute ++
    beBytes 2 t.activation.position ++ yesNo t.close.walking ++ beBytes 2 t.close.position.val ++
    beBytes 2 t.cycleNumber.toNat ++ s.alarms.heading ++
    ((List.finRange 4).flatMap fun q => [byte (s.port q).role.code, byte (s.port q).phase.code]) ++
    [byte p.val]

/-- READ_STATUS (R169). The picture is that of the moment the request is carried out (DESIGN CHOICE, log entry
34). -/
def readStatus (p : Port) (_ : List Byte) (s : State) : Answer := answer .ok (s.statusBody p) s

/-- READ_ATTENTION: the flags and the mask, and then all seven flags are cleared (R168). The flags are those of the
moment the request is carried out (DESIGN CHOICE, log entry 34). -/
def readAttention (p : Port) (_ : List Byte) (s : State) : Answer :=
  let x := s.port p
  answer .ok [x.flags, x.mask] (s.setPort p { x with flags := 0 })

/-- SET_ATTENTION_MASK(mask) (R168). Bit 7 of a set of flags is zero (R170). A port that was detached after its
request was taken keeps the mask its detach set (R166; log entry 7). -/
def setAttentionMask (p : Port) (b : List Byte) (s : State) : Answer :=
  let n := field b 0 1
  if 0x80 ≤ n then refuse .badArgument s
  else
    answer .ok [byte n]
      (if s.served p then s.setPort p { s.port p with mask := byte n } else s)

/-! ## Meanings -/

/-- R164, R165. -/
def execFetch (p : Port) (n : Nat) (s : State) : Host.Outcome State Fault Refusal :=
  .next (outOfReset (fetch p n) s)

/-- R166. -/
def execAttach (p : Port) (s : State) : Host.Outcome State Fault Refusal :=
  .next (outOfReset (attach p) s)

/-- R167. -/
def execUnknownRequest (p : Port) (s : State) : Host.Outcome State Fault Refusal :=
  .next (outOfReset (unknownRequest p) s)

/-- R169. -/
def execReadStatus (p : Port) (s : State) : Host.Outcome State Fault Refusal :=
  .next (outOfReset (carryOut Row.readStatus readStatus p) s)

/-- R168. -/
def execReadAttention (p : Port) (s : State) : Host.Outcome State Fault Refusal :=
  .next (outOfReset (carryOut Row.readAttention readAttention p) s)

/-- R168. -/
def execSetAttentionMask (p : Port) (s : State) : Host.Outcome State Fault Refusal :=
  .next (outOfReset (carryOut Row.setAttentionMask setAttentionMask p) s)

end Sys2Proof.Machine
end

