-- ==== Sys2Proof/Machine/StartUp.lean ====
section
/-!
DEFINITION. Power-Fail Control, reset, warm and cold starts, and the COLD_START request (R162, R163, R176,
R179 to R182, and the values after start-up of each chapter).
-/

namespace Sys2Proof.Machine

/-! ## SHUTDOWN (R179) -/

/-- Every drop address, ascending. -/
def allDrops : List Drop := List.finRange 2048

/-- Step 2: the transactions in flight are abandoned, with no outcome. -/
def State.abandon (s : State) : State :=
  { s with
    legs := s.legs.map fun g => { g with tx := none }
    matrix := { s.matrix with tx := none } }

/-- Step 3: the accounts are folded, judged and their starts made absent, while the clock is RUNNING (R129). -/
def State.shutdownFold (s : State) : State :=
  match s.now with
  | some m => forEach allDrops (State.shutdownDrop m) s
  | none => s

/-- The shutdown record written with a marker and a minute, under its own CRC (R176). -/
def ShutdownRecord.written (valid : Bool) (minute : Nat) : ShutdownRecord :=
  { valid := valid, minute := minute, crc := recordCrc valid minute }

/-- Whether the CRC of a shutdown record is that of its marker and minute (R176). -/
def ShutdownRecord.crcGood (r : ShutdownRecord) : Bool := decide (r.crc = recordCrc r.valid r.minute)

/-- Step 4: outage-began minutes absent. The contexts of step 5 stand in table memory already. -/
def TableMemory.shut (t : TableMemory) : TableMemory :=
  { t with units := t.units.map fun x => { x with outageBegan := none } }

/-- Step 6: the shutdown record is written VALID with the last-known minute: the minute count of a RUNNING clock, and
otherwise the last-known minute as it stood. -/
def State.recordMinute (s : State) : State :=
  s.setTable { s.table with record := .written true (s.clock.minute.getD s.table.lastKnown) }

/-- The bytes of a sector before its CRC, by the records it holds (R176). Sectors 4 and 5 hold the unit table, which
R176 does not divide between them; the spare sectors hold zeros. -/
def TableMemory.sectorBytes (t : TableMemory) (k : Sector) : Vector Byte 4094 :=
  match k.val with
  | 0 => Config.sectorBytes 0 (t.record, t.lastKnown)
  | 1 =>
    Config.sectorBytes 1
      ((t.cycleNumber, t.cycleStart, t.close, t.currentRates, t.nextRates, t.creditThreshold),
        (t.journal.written, t.journal.released, t.journal.threshold, t.activation))
  | 2 => Config.sectorBytes 2 (t.active, t.pendingLineup, t.sources)
  | 3 => Config.sectorBytes 3 (t.legs, t.run, t.nodes)
  | n =>
    if n < 6 then Config.sectorBytes n t.units
    else if n < 134 then Config.sectorBytes n ((sectorDrops n).map (look t.subs))
    else if n < 362 then Config.sectorBytes n ((sectorSlots n).map (look t.journal.slots))
    else Vector.replicate 4094 0

/-- The CRC of a sector computed over what it holds (R170, R176). -/
def TableMemory.crc (t : TableMemory) (k : Sector) : BitVec 16 :=
  if k.val < 362 then crc16 (t.sectorBytes k).toList else spareCrc

/-- Step 7: the CRC of every sector, computed over table memory as it stands. -/
def State.sealTable (s : State) : State := s.setCrcs (tabulate 512 s.table.crc)

/-- POWER_FAIL_WARNING: taken in NORMAL (R179), with steps 1 to 5. -/
def powerFailWarning (s : State) : State :=
  if s.power = .normal then
    let s := (s.setPower .shutdown).abandon.shutdownFold
    s.setTable s.table.shut
  else s

/-- SAFE_ENTRY: the sealing finishes with steps 6 and 7, and with it SHUTDOWN. The record is written before the CRCs,
which describe the memory as it stands then, whatever a detach changed since the warning (R176, R179; log entry 2). -/
def safeEntry (s : State) : State :=
  if s.power = .shutdown then (s.setPower .safe).recordMinute.sealTable else s

/-! ## Reset (R179, 13.6) -/

/-- A controller whose sealing a reset cuts short: whether the record had been written is a free value (log entry 3),
and one that had not stands as the last start left it, its marker, its minute and its CRC (R179). -/
def State.cutShort (s : State) : State := if Config.cutRecordWritten s.freeIndex then s.recordMinute else s

/-- Whether a sealing cut short had not written the CRC of a sector. The record is written before every CRC
(R179; log entry 3). -/
def cutUnwritten (draw : Nat) (k : Sector) : Bool :=
  !Config.cutRecordWritten draw || decide (k.val = Config.cutSector draw % 512) ||
    !Config.cutSectorWritten draw k.val

/-- What stands in place of an unwritten CRC in a sector whose CRC is `c`: the one that stood there, or a free one where
that would agree with the sector. -/
def disagreeing (c old free : BitVec 16) : BitVec 16 := if old ≠ c then old else if free = c then c + 1 else free

/-- The sector CRCs after a sealing cut short: one that was written is that of its sector, and one that was not
disagrees with its sector (R179; log entry 3). -/
def cutCrcs (crcs : Vector (BitVec 16) 512) (t : TableMemory) (draw : Nat) : Vector (BitVec 16) 512 :=
  tabulate 512 fun k =>
    if cutUnwritten draw k then disagreeing (t.crc k) (look crcs k) (Config.cutCrc draw k.val) else t.crc k

/-- RESET_ASSERTED. In SHUTDOWN the sealing is incomplete: whether the record had been written, and which
CRCs, are free values (log entry 3). -/
def resetAsserted (s : State) : State :=
  if s.inReset then s
  else if s.power = .shutdown then
    let s := s.cutShort
    { s with
      inReset := true
      power := .normal
      freeIndex := s.freeIndex + 1
      crcs := cutCrcs s.crcs s.table s.freeIndex }
  else { s with inReset := true, power := .normal }

/-! ## The checks of a reset release (R180) -/

/-- Whether the CRC of a sector disagrees with the sector: the battery lost it, or the CRC that stands there is not
that of what the sector holds (R176; log entries 2 and 11). -/
def State.sectorFails (s : State) (lost : List Sector) (k : Sector) : Bool :=
  decide (k ∈ lost) || decide (look s.crcs k ≠ s.table.crc k)

/-- The sectors whose CRC fails, ascending. -/
def State.failingSectors (s : State) (lost : List Sector) : List Sector :=
  (List.finRange 512).filter fun k => s.sectorFails lost k

/-- Whether the shutdown record passes its check: its marker is VALID and its CRC is correct. -/
def State.recordGood (s : State) (recordLost : Bool) : Bool :=
  s.table.record.valid && s.table.record.crcGood && !recordLost

/-- The sectors the battery lost: sector 0 with the shutdown record, which it holds (R176; log entry 11). -/
def lostSectors (recordLost : Bool) (lost : List Sector) : List Sector :=
  if recordLost then 0 :: lost else lost

/-- The sector CRCs after a cold start at reset, which writes none: they stand, but for the sectors that the battery
lost, where a free value stands (R176, R181; log entry 11). -/
def crcsAfterLoss (crcs : Vector (BitVec 16) 512) (lost : List Sector) (draw : Nat) : Vector (BitVec 16) 512 :=
  tabulate 512 fun k => if k ∈ lost then Config.lostCrc draw k.val else look crcs k

/-- The role that two straps give (R163). -/
def Straps.role (x : Straps) : Role :=
  match x.firstHigh, x.secondHigh with
  | false, false => .manager
  | false, true => .billing
  | true, false => .monitor
  | true, true => .craft

/-- A port at reset release (R163). -/
def portAt (x : Straps) (present : Bool) : PortState :=
  { PortState.fresh (Straps.role x) with phase := if present then .idle else .detached }

/-- What both kinds of start share: ports, locks, alarms, clock and power (R162, R163, R117, R177, R179). -/
def State.started (s : State) (straps : Vector Straps 4) (present : Vector Bool 4) (kind : StartKind) :
    State :=
  { s with
    ports := tabulate 4 fun p => portAt (look straps p) (look present p)
    locks := Vector.replicate 19 Lock.free
    alarms := AlarmList.empty
    spaceLow := false
    clock := Clock.notSet
    power := .normal
    inReset := false
    startKind := kind
    freeIndex := s.freeIndex + 1
    sources := Vector.replicate 64 SourceRuntime.fresh
    legs := Vector.replicate 4 LegState.fresh
    roots := Vector.replicate 4 Tally.zero
    slots := Vector.replicate 48 SlotRuntime.cold
    matrix := { queue := [], tx := none } }

/-- CLOCK_NOT_SET raised, and CLOCK attention on every attached MANAGER port (R180, R181). -/
def State.announceClock (s : State) : State := (s.raise .clockNotSet 0 0).flagRole .clock .manager

/-! ## The warm start (R180) -/

/-- The number of ACTIVE and SUSPENDED records (R2). -/
def countSubscribers (subs : Vector Subscriber 2048) : Nat :=
  subs.toList.countP fun x => x.state.counts

/-- A record after a warm start (R18). -/
def Subscriber.warm (x : Subscriber) : Subscriber :=
  { x with seg := { start := none, kind := .none, tiers := 0 } }

/-- A unit after a warm start: its feeding place alone is kept (R106). -/
def UnitEntry.warm (x : UnitEntry) : UnitEntry := { UnitEntry.uninstalled with feeding := x.feeding }

/-- A node after a warm start: its place alone is kept (R106). -/
def NodeEntry.warm (x : NodeEntry) : NodeEntry := { x with tally := Tally.zero }

/-- A run state after a warm start (R72). -/
def RunState.warm (x : RunState) : RunState :=
  match x with
  | .stopping => .stopped
  | r => r

/-- The activation context after a warm start (R37). -/
def Activation.warm (a : Activation) : Activation :=
  match a with
  | .deferred m => .scheduled m
  | a => a

/-- Table memory after a warm start: the record INVALID, the last-known minute taken from it, and each
block's kept records (R18, R37, R54, R72, R106, R144, R153). -/
def TableMemory.warm (t : TableMemory) : TableMemory :=
  { t with
    record := .written false t.record.minute
    lastKnown := t.record.minute
    close := { t.close with requester := none }
    activation := t.activation.warm
    run := t.run.map RunState.warm
    nodes := t.nodes.map NodeEntry.warm
    units := t.units.map UnitEntry.warm
    subs := t.subs.map Subscriber.warm }

/-- The units-in-subtree counts recounted from the kept topology (R106). -/
def State.recount (s : State) : State :=
  forEach (List.finRange 128) (fun t u => t.alongUnit u (Tally.gain 1 0)) s

/-- A slot derived from no previous state with every source NORMAL (R55). -/
def State.warmSlot (s : State) (i : Slot) : SlotRuntime :=
  let e := look s.table.active i
  let x := s.deriveSlot e none
  { state := x, selected := selectedOf e x, confirmed := .absent, attempts := 0 }

/-- The slots, the matrix queue and the leg ticks of a warm start (R55, R72). -/
def State.warmBlocks (s : State) : State :=
  { s with
    subscriberCount := countSubscribers s.table.subs
    composition := compositionOf s.table.active
    slots := tabulate 48 s.warmSlot
    matrix :=
      { queue := (List.finRange 48).filter fun i => (look s.table.active i).isSome, tx := none }
    legs := tabulate 4 fun l =>
      { LegState.fresh with
        tickInterval := if s.run l = .running then some (s.legSettings l).tick else none } }

/-- The warm start (R180). -/
def State.warmStart (s : State) (straps : Vector Straps 4) (present : Vector Bool 4) : State :=
  let s := (s.setTable s.table.warm).started straps present .warm
  (s.announceClock.recount.warmBlocks.mixedAlarms).startMatrix

/-! ## The cold start at reset (R181) -/

/-- The cold start, with the sectors whose CRC failed and whether the shutdown record was good. -/
def State.coldAtReset (s : State) (straps : Vector Straps 4) (present : Vector Bool 4) (good : Bool)
    (failing : List Sector) : State :=
  let object :=
    if good then
      (match failing with
       | k :: _ => k.val
       | [] => 512)
    else 512
  let s := (s.setTable TableMemory.cold).started straps present .cold
  let s := (s.setCount 0).setComposition (Vector.replicate 8 0)
  let s := s.setMatrix { queue := List.finRange 48, tx := none }
  ((s.raise .tableCheck object (BitVec.ofNat 16 failing.length)).announceClock).startMatrix

/-- RESET_RELEASE: the record check, the sector checks, and the start they lead to (R180). Neither start writes
the sector CRCs. Without a reset asserted before, the command is an assertion and a release (log entry 4). -/
def resetRelease (straps : Vector Straps 4) (present : Vector Bool 4) (recordLost : Bool)
    (lost : List Sector) (s : State) : State :=
  let s := resetAsserted s
  let lost := lostSectors recordLost lost
  let failing := s.failingSectors lost
  let good := s.recordGood recordLost
  if good ∧ failing = [] then s.warmStart straps present
  else (s.setCrcs (crcsAfterLoss s.crcs lost s.freeIndex)).coldAtReset straps present good failing

/-! ## The COLD_START request (R182) -/

/-- The alarm kinds whose conditions a COLD_START ends, cleared by their owning blocks. -/
def coldStartKinds : List AlarmKind :=
  [.sourceLoss, .slotDark, .slotOnFallback, .matrixFault, .mixedGroup, .unitDead, .nodeOutage,
   .legOutage, .legNoise, .unitTamper, .orderFailed, .nodePower, .journalSpace, .cycleOverdue]

/-- A direct slot after a COLD_START (R89). -/
def DirectSlot.coldStart (x : DirectSlot) : DirectSlot :=
  match x with
  | .submitted _ => .empty
  | y => y

/-- A leg after a COLD_START: a transaction in flight runs out unapplied (R72, R89). -/
def LegState.coldStart (g : LegState) : LegState :=
  { LegState.fresh with
    tx := g.tx.map fun x => { x with targetGone := true }
    lastLatency := g.lastLatency
    direct := g.direct.coldStart }

/-- Table memory after a COLD_START (R181, R182, R72). -/
def State.coldTable (s : State) : TableMemory :=
  { TableMemory.cold with
    lastKnown := s.clock.minute.getD s.table.lastKnown
    run := tabulate 4 fun l => if (s.leg l).tx.isSome then .stopping else .stopped }

/-- The cold-start values written in place (R182). -/
def State.coldValues (s : State) : State :=
  { s with
    table := s.coldTable
    subscriberCount := 0
    composition := Vector.replicate 8 0
    slots := Vector.replicate 48 SlotRuntime.cold
    sources := Vector.replicate 64 SourceRuntime.fresh
    matrix :=
      { s.matrix with
        queue := (List.finRange 48).filter fun i => decide (s.matrix.tx.map MatrixTx.slot ≠ some i) }
    legs := s.legs.map LegState.coldStart
    roots := Vector.replicate 4 Tally.zero
    spaceLow := false
    clock := Clock.notSet }

/-- COLD_START (R182): the clears, the cold-start values, CLOCK_NOT_SET, the TABLE_CHECK clears, and the
release of all 19 locks, of those that the port holds (log entry 18). -/
def coldStart (p : Port) (_ : List Byte) (s : State) : Answer :=
  let s := forEach coldStartKinds State.clearKind s
  let s := (s.coldValues.raise .clockNotSet 0 0).clearKind .tableCheck
  answer .ok [] (s.startMatrix.releaseAll p)

/-! ## Meanings -/

/-- R179. -/
def execPowerFailWarning (s : State) : Host.Outcome State Fault Refusal :=
  .next (outOfReset powerFailWarning s)

/-- R179. -/
def execSafeEntry (s : State) : Host.Outcome State Fault Refusal := .next (outOfReset safeEntry s)

/-- R179. -/
def execResetAsserted (s : State) : Host.Outcome State Fault Refusal := .next (resetAsserted s)

/-- R163, R180, R181. -/
def execResetRelease (straps : Vector Straps 4) (present : Vector Bool 4) (recordLost : Bool)
    (lost : List Sector) (s : State) : Host.Outcome State Fault Refusal :=
  .next (resetRelease straps present recordLost lost s)

/-- R182. -/
def execColdStart (p : Port) (s : State) : Host.Outcome State Fault Refusal :=
  .next (outOfReset (carryOut Row.coldStart coldStart p) s)

end Sys2Proof.Machine
end

