-- ==== Sys2Proof/Machine/Taking.lean ====
section
/-!
DEFINITION. The order of taking: request frames taken (R164, R165), the requests that were taken earlier (R155 to
R160), and the two events that find the work of these done: a minute boundary (R28, R177, R178) and a detach (R160,
R166).
-/

namespace Sys2Proof.Machine

/-! ## The work of the requests that wait -/

/-- The work of each request of R171. -/
def requests : List (Row × (Port → List Byte → State → Answer)) :=
  [(Row.readStatus, readStatus), (Row.readAttention, readAttention), (Row.setAttentionMask, setAttentionMask),
    (Row.claim, claim), (Row.claimQueued, claimQueued), (Row.release, release), (Row.withdraw, withdraw),
    (Row.forceRelease, forceRelease), (Row.readLocks, readLocks), (Row.setClock, setClock),
    (Row.readClock, readClock), (Row.provision, provision), (Row.setTiers, setTiers), (Row.suspend, suspend),
    (Row.resume, resume), (Row.disconnect, disconnect), (Row.vacate, vacate), (Row.addCharge, addCharge),
    (Row.reissue, reissue), (Row.readSubscriber, readSubscriber), (Row.editSlot, editSlot),
    (Row.copyActiveToPending, copyActiveToPending), (Row.scheduleActivation, scheduleActivation),
    (Row.cancelActivation, cancelActivation), (Row.readLineup, readLineup), (Row.readSlotState, readSlotState),
    (Row.revertSlot, revertSlot), (Row.setSource, setSource), (Row.readSource, readSource),
    (Row.setLeg, setLeg), (Row.startLeg, startLeg), (Row.stopLeg, stopLeg),
    (Row.clearLegCounters, clearLegCounters), (Row.readLeg, readLeg), (Row.direct, direct),
    (Row.readDirect, readDirect), (Row.setUnit, setUnit), (Row.setNode, setNode), (Row.readUnit, readUnit),
    (Row.readNode, readNode), (Row.ackAlarm, ackAlarm), (Row.readAlarms, readAlarms),
    (Row.startClose, startClose), (Row.readCloseStatus, readCloseStatus), (Row.setRate, setRate),
    (Row.setCreditThreshold, setCreditThreshold), (Row.readJournal, readJournal),
    (Row.releaseJournal, releaseJournal), (Row.setJournalThreshold, setJournalThreshold),
    (Row.coldStart, coldStart)]

/-- The answer to a request taken at a port, whatever it asks (R167). -/
def State.answerOf (s : State) (p : Port) (t : Taken) : Answer :=
  match badRequest t.frame with
  | some r => s.answerBad r
  | none =>
    match requests.find? fun x => decide (checkFrame t.frame = .request x.1.code) with
    | some x => s.answerTo x.1 x.2 p t
    | none => refuse .unknownRequest s

/-- The requests of a port once the work of the oldest that waited is done, with the reply it will place. -/
def keepReply (r : Reply) : List Taken → List Taken
  | [] => []
  | t :: ts => if t.done.isNone then { t with done := some r } :: ts else t :: keepReply r ts

/-- The work of the oldest request that waits at a port is done, and its reply waits to be placed (R165). -/
def State.workNext (s : State) (p : Port) : State :=
  match (s.port p).waiting with
  | none => s
  | some t =>
    let a := s.answerOf p t
    let x := a.state.port p
    a.state.setPort p { x with taken := keepReply (a.replyTo t) x.taken }

/-- The requests taken at every port and not yet answered. -/
def State.allTaken (s : State) : List Taken := (List.finRange 4).flatMap fun p => (s.port p).taken

/-- The port whose request is the next to be carried out, if one waits anywhere (log entry 33). -/
def State.portAtWork (s : State) : Option Port :=
  (List.finRange 4).find? fun p =>
    match (s.port p).waiting with
    | none => false
    | some t => s.isOldest t

/-- At most `n` of the requests that wait, oldest first, with their work done. -/
def settle : Nat → State → State
  | 0, s => s
  | n + 1, s =>
    match s.portAtWork with
    | none => s
    | some p => settle n (s.workNext p)

/-- The controller with the work of every request that waits done, in the order in which they were taken. -/
def State.settled (s : State) : State := settle (s.allTaken.countP fun t => t.done.isNone) s

/-! ## Request frames (R164, R165) -/

/-- The locks a port holds at the moment its request is taken: a release, a pass or a claim of a request taken
earlier counts as made, also while that request waits to be carried out (R159; DEDUCED, log entry 33). -/
def State.heldAtTaking (s : State) (p : Port) : List LockNo := s.settled.heldBy p

/-- The number of a request taken now: above that of every request taken and not yet answered. -/
def State.nextNumber (s : State) : Nat := s.allTaken.foldl (fun n t => max n (t.number + 1)) 0

/-- A complete request frame at a port, which becomes this request if it is taken (R165). Data out is at FF hex
during the selection (R164). -/
def PortState.complete (x : PortState) (t : Taken) : PortState :=
  let x := { x with dataOut := List.replicate t.frame.length 0xFF }
  match x.phase with
  | .detached => x
  | .idle => { x with taken := x.taken ++ [t], phase := .executing }
  | .executing => { x with overrun := true }
  | .replyReady =>
    { x with taken := x.taken ++ [t], phase := .executing, reply := none, overrun := true }

/-- The request that a frame becomes when it is taken now at a port (R159, R166). -/
def State.takenAs (s : State) (p : Port) (frame : List Byte) : Taken where
  frame := frame
  live := true
  held := s.heldAtTaking p
  number := s.nextNumber
  done := none

/-- Whether a selection is a request selection: a whole byte was transferred and the first is not 00 hex (R164). -/
def isRequest (frame : List Byte) : Bool :=
  match frame with
  | [] => false
  | b :: _ => decide (b ≠ 0)

/-- REQUEST_FRAME_COMPLETE (R164, R165). -/
def requestFrameComplete (p : Port) (frame : List Byte) (s : State) : State :=
  if isRequest frame then s.setPort p ((s.port p).complete (s.takenAs p frame)) else s

/-- REQUEST_FRAME_OVERRUN: a complete request frame while the port is EXECUTING is discarded unread, and
the overrun flag is set (R165). -/
def requestFrameOverrun (p : Port) (frame : List Byte) (s : State) : State :=
  if isRequest frame ∧ (s.port p).phase = .executing then
    s.setPort p ((s.port p).complete (s.takenAs p frame))
  else s

/-! ## The minute boundary (R177) -/

/-- MINUTE_BOUNDARY (R177). The work of every request taken before it is done first: a claim of lock 0 holds it when
the scheduled minute arrives (R28), and a setting of the clock is the one the boundary finds (R178; DEDUCED, log entry
33). -/
def minuteBoundary (s : State) : State := if s.minuteEnds then s.settled.turnMinute else s

/-! ## Detach (R160, R166) -/

/-- A port as a detach leaves it. The reply of a request already taken is lost (R166). -/
def PortState.detached (x : PortState) : PortState :=
  { x with
    phase := .detached
    taken := x.taken.map fun t => { t with live := false }
    reply := none
    overrun := false
    flags := 0
    mask := allFlags }

/-- A direct slot after its owner, or another port, is detached (R79). -/
def DirectSlot.disown (x : DirectSlot) (p : Port) : DirectSlot :=
  match x with
  | .empty => .empty
  | .submitted j => if j.owner = p then .empty else x
  | .inFlight j => if j.owner = p then .empty else x
  | .done j _ => if j.owner = p then .empty else x

/-- Every direct slot owned by a port becomes empty. -/
def State.disownDirect (s : State) (p : Port) : State :=
  { s with legs := tabulate 4 fun l => { s.leg l with direct := (s.leg l).direct.disown p } }

/-- The requesting port of the close context becomes none if it is the port. -/
def State.forgetRequester (s : State) (p : Port) : State :=
  if s.table.close.requester = some p then s.setClose { s.table.close with requester := none } else s

/-- DETACH (R160, R166). The work of every request taken before it is done first: a claim finds the lock held by the
port, and a FORCE_RELEASE takes it from the port (R160; DEDUCED, log entry 33). A port that is DETACHED cannot be
detached again. -/
def detach (p : Port) (s : State) : State :=
  if s.attached p then
    let s := s.settled
    (((s.setPort p (s.port p).detached).stopWaiting p).releaseAll p |>.disownDirect p).forgetRequester p
  else s

/-! ## Meanings -/

/-- R164, R165. -/
def execRequestFrameComplete (p : Port) (frame : List Byte) (s : State) :
    Host.Outcome State Fault Refusal :=
  .next (outOfReset (requestFrameComplete p frame) s)

/-- R165. -/
def execRequestFrameOverrun (p : Port) (frame : List Byte) (s : State) :
    Host.Outcome State Fault Refusal :=
  .next (outOfReset (requestFrameOverrun p frame) s)

/-- R177, R28, R140. -/
def execMinuteBoundary (s : State) : Host.Outcome State Fault Refusal :=
  .next (outOfReset minuteBoundary s)

/-- R166, R160. -/
def execDetach (p : Port) (s : State) : Host.Outcome State Fault Refusal :=
  .next (outOfReset (detach p) s)

end Sys2Proof.Machine
end

