-- ==== Sys2Proof/Machine/Dispatch.lean ====
section
/-!
DEFINITION. One arm for each command, in the order of the opcode table.
-/

namespace Sys2Proof.Machine

/-- The effect of a command on everything but the queue of waiting commands. -/
def exec (i : Instr) (s : State) : Host.Outcome State Fault Refusal :=
  match i with
  | .readStatus p => Sys2Proof.Machine.execReadStatus p s
  | .readAttention p => Sys2Proof.Machine.execReadAttention p s
  | .setAttentionMask p => Sys2Proof.Machine.execSetAttentionMask p s
  | .claim p => Sys2Proof.Machine.execClaim p s
  | .claimQueued p => Sys2Proof.Machine.execClaimQueued p s
  | .release p => Sys2Proof.Machine.execRelease p s
  | .withdraw p => Sys2Proof.Machine.execWithdraw p s
  | .forceRelease p => Sys2Proof.Machine.execForceRelease p s
  | .readLocks p => Sys2Proof.Machine.execReadLocks p s
  | .setClock p => Sys2Proof.Machine.execSetClock p s
  | .readClock p => Sys2Proof.Machine.execReadClock p s
  | .provision p => Sys2Proof.Machine.execProvision p s
  | .setTiers p => Sys2Proof.Machine.execSetTiers p s
  | .suspend p => Sys2Proof.Machine.execSuspend p s
  | .resume p => Sys2Proof.Machine.execResume p s
  | .disconnect p => Sys2Proof.Machine.execDisconnect p s
  | .vacate p => Sys2Proof.Machine.execVacate p s
  | .addCharge p => Sys2Proof.Machine.execAddCharge p s
  | .reissue p => Sys2Proof.Machine.execReissue p s
  | .readSubscriber p => Sys2Proof.Machine.execReadSubscriber p s
  | .editSlot p => Sys2Proof.Machine.execEditSlot p s
  | .copyActiveToPending p => Sys2Proof.Machine.execCopyActiveToPending p s
  | .scheduleActivation p => Sys2Proof.Machine.execScheduleActivation p s
  | .cancelActivation p => Sys2Proof.Machine.execCancelActivation p s
  | .readLineup p => Sys2Proof.Machine.execReadLineup p s
  | .readSlotState p => Sys2Proof.Machine.execReadSlotState p s
  | .revertSlot p => Sys2Proof.Machine.execRevertSlot p s
  | .setSource p => Sys2Proof.Machine.execSetSource p s
  | .readSource p => Sys2Proof.Machine.execReadSource p s
  | .setLeg p => Sys2Proof.Machine.execSetLeg p s
  | .startLeg p => Sys2Proof.Machine.execStartLeg p s
  | .stopLeg p => Sys2Proof.Machine.execStopLeg p s
  | .clearLegCounters p => Sys2Proof.Machine.execClearLegCounters p s
  | .readLeg p => Sys2Proof.Machine.execReadLeg p s
  | .direct p => Sys2Proof.Machine.execDirect p s
  | .readDirect p => Sys2Proof.Machine.execReadDirect p s
  | .setUnit p => Sys2Proof.Machine.execSetUnit p s
  | .setNode p => Sys2Proof.Machine.execSetNode p s
  | .readUnit p => Sys2Proof.Machine.execReadUnit p s
  | .readNode p => Sys2Proof.Machine.execReadNode p s
  | .ackAlarm p => Sys2Proof.Machine.execAckAlarm p s
  | .readAlarms p => Sys2Proof.Machine.execReadAlarms p s
  | .startClose p => Sys2Proof.Machine.execStartClose p s
  | .readCloseStatus p => Sys2Proof.Machine.execReadCloseStatus p s
  | .setRate p => Sys2Proof.Machine.execSetRate p s
  | .setCreditThreshold p => Sys2Proof.Machine.execSetCreditThreshold p s
  | .readJournal p => Sys2Proof.Machine.execReadJournal p s
  | .releaseJournal p => Sys2Proof.Machine.execReleaseJournal p s
  | .setJournalThreshold p => Sys2Proof.Machine.execSetJournalThreshold p s
  | .coldStart p => Sys2Proof.Machine.execColdStart p s
  | .unknownRequest p => Sys2Proof.Machine.execUnknownRequest p s
  | .requestFrameOverrun p frame => Sys2Proof.Machine.execRequestFrameOverrun p frame s
  | .fetch p clocked => Sys2Proof.Machine.execFetch p clocked s
  | .detach p => Sys2Proof.Machine.execDetach p s
  | .attach p => Sys2Proof.Machine.execAttach p s
  | .resetAsserted => Sys2Proof.Machine.execResetAsserted s
  | .resetRelease straps present recordLost lost => Sys2Proof.Machine.execResetRelease straps present recordLost lost s
  | .powerFailWarning => Sys2Proof.Machine.execPowerFailWarning s
  | .safeEntry => Sys2Proof.Machine.execSafeEntry s
  | .minuteBoundary => Sys2Proof.Machine.execMinuteBoundary s
  | .sweepVisit => Sys2Proof.Machine.execSweepVisit s
  | .walkVisit => Sys2Proof.Machine.execWalkVisit s
  | .detectorReading src level => Sys2Proof.Machine.execDetectorReading src level s
  | .holdOffExpiry src => Sys2Proof.Machine.execHoldOffExpiry src s
  | .matrixSelectSent => Sys2Proof.Machine.execMatrixSelectSent s
  | .matrixFrameReceived chars => Sys2Proof.Machine.execMatrixFrameReceived chars s
  | .matrixAckTimeout => Sys2Proof.Machine.execMatrixAckTimeout s
  | .pollTick leg => Sys2Proof.Machine.execPollTick leg s
  | .sendingEnd leg => Sys2Proof.Machine.execSendingEnd leg s
  | .blankingExpiry leg => Sys2Proof.Machine.execBlankingExpiry leg s
  | .startBitConfirmed leg micros samples => Sys2Proof.Machine.execStartBitConfirmed leg micros samples s
  | .replyWindowExpiry leg => Sys2Proof.Machine.execReplyWindowExpiry leg s
  | .replyCharacterReceived leg samples => Sys2Proof.Machine.execReplyCharacterReceived leg samples s
  | .replyQuietEnd leg => Sys2Proof.Machine.execReplyQuietEnd leg s
  | .requestFrameComplete p frame => Sys2Proof.Machine.execRequestFrameComplete p frame s

end Sys2Proof.Machine
end

