-- ==== Sys2Proof/Machine/Step.lean ====
section
/-!
DEFINITION. One step: the command at the front of the queue is taken and carried out; with no command
waiting, time passes.
-/

namespace Sys2Proof.Machine

/-- One step. With an empty queue the controller is idle for 100 ms (log entry 5); with reset asserted
nothing moves (log entry 4). -/
def step (s : State) : Host.Outcome State Fault Refusal :=
  match s.pending with
  | [] => .next (outOfReset idleTick s)
  | i :: rest => exec i { s with pending := rest }

/-- The state with the command that a word of the opcode table spells put at the front of its queue; the
state itself where the word spells none. -/
def State.withFetchWord (s : State) (nbits w : Nat) : State :=
  match decodeTableWord nbits w with
  | some i => { s with pending := i :: s.pending }
  | none => s

end Sys2Proof.Machine
end

