-- ==== Sys2Proof/Safety.lean ====
section
/-!
DEFINITION. What statements are made of: a request that is being served, what it means that blocks leave
the rest of the controller alone, and the invariants of the lock table, the alarm list, the clock, the
subscriber register, the journal, the queues and the plant map.
-/

namespace Sys2Proof.Machine

/-! ## Requests being served -/

/-- The locks the port held when the oldest request it has taken was taken. -/
def State.heldWhenTaken (s : State) (p : Port) : List LockNo :=
  match (s.port p).taken with
  | [] => []
  | t :: _ => t.held

/-- The lock a request needs is among those held (R159). -/
def LockHeld (held : List LockNo) (need : Need) (body : List Byte) : Prop :=
  match need with
  | .nothing => True
  | .lock n => n ∈ held
  | .block => ∃ d, dropArg body = some d ∧ Drop.blockLock d ∈ held
  | .all => ∀ n, n ∈ held

/-- A taken request stands first at port `p`, and none whose work waits at any port was taken before it (log entry
33). -/
abbrev FirstTaken (s : State) (p : Port) (t : Taken) : Prop :=
  (s.port p).taken.head? = some t ∧
    ∀ (q : Port) (u : Taken), u ∈ (s.port q).taken → u.done = none → t.number ≤ u.number

/-- The request of a row, with this tag and body, is the oldest taken, at port `p`, and the port is EXECUTING it
out of reset and in NORMAL. -/
structure Asked (s : State) (p : Port) (row : Row) (tag : Byte) (body : List Byte) : Prop where
  running : s.inReset = false
  normal : s.power = .normal
  executing : (s.port p).phase = .executing
  taken : ∃ number, FirstTaken s p ⟨requestFrame row.code tag body, true, s.heldWhenTaken p, number, none⟩

/-- A request that is asked, and checks 0 to 4 of R167 and the length of check 5 pass; the lock was held when
the request was taken (R159). -/
structure Serving (s : State) (p : Port) (row : Row) (tag : Byte) (body : List Byte) : Prop
    extends Asked s p row tag body where
  role : (s.port p).role ∈ row.roles
  lock : LockHeld (s.heldWhenTaken p) row.need body
  length : body.length = row.body

/-- The state with the oldest request of port `p` answered: the reply placed, the port REPLY_READY, and
everything else as it was (R165). -/
def State.answered (s : State) (p : Port) (tag : Byte) (r : Result) (body : List Byte) : State :=
  { s with
    ports :=
      put s.ports p
        { s.port p with
          taken := (s.port p).taken.tail, phase := .replyReady, reply := some ⟨tag, r, body⟩ } }

/-- The port and the row of a command that carries out a station request. -/
def Instr.request (i : Instr) : Option (Port × Row) :=
  match i with
  | .readStatus p => some (p, Row.readStatus)
  | .readAttention p => some (p, Row.readAttention)
  | .setAttentionMask p => some (p, Row.setAttentionMask)
  | .claim p => some (p, Row.claim)
  | .claimQueued p => some (p, Row.claimQueued)
  | .release p => some (p, Row.release)
  | .withdraw p => some (p, Row.withdraw)
  | .forceRelease p => some (p, Row.forceRelease)
  | .readLocks p => some (p, Row.readLocks)
  | .setClock p => some (p, Row.setClock)
  | .readClock p => some (p, Row.readClock)
  | .provision p => some (p, Row.provision)
  | .setTiers p => some (p, Row.setTiers)
  | .suspend p => some (p, Row.suspend)
  | .resume p => some (p, Row.resume)
  | .disconnect p => some (p, Row.disconnect)
  | .vacate p => some (p, Row.vacate)
  | .addCharge p => some (p, Row.addCharge)
  | .reissue p => some (p, Row.reissue)
  | .readSubscriber p => some (p, Row.readSubscriber)
  | .editSlot p => some (p, Row.editSlot)
  | .copyActiveToPending p => some (p, Row.copyActiveToPending)
  | .scheduleActivation p => some (p, Row.scheduleActivation)
  | .cancelActivation p => some (p, Row.cancelActivation)
  | .readLineup p => some (p, Row.readLineup)
  | .readSlotState p => some (p, Row.readSlotState)
  | .revertSlot p => some (p, Row.revertSlot)
  | .setSource p => some (p, Row.setSource)
  | .readSource p => some (p, Row.readSource)
  | .setLeg p => some (p, Row.setLeg)
  | .startLeg p => some (p, Row.startLeg)
  | .stopLeg p => some (p, Row.stopLeg)
  | .clearLegCounters p => some (p, Row.clearLegCounters)
  | .readLeg p => some (p, Row.readLeg)
  | .direct p => some (p, Row.direct)
  | .readDirect p => some (p, Row.readDirect)
  | .setUnit p => some (p, Row.setUnit)
  | .setNode p => some (p, Row.setNode)
  | .readUnit p => some (p, Row.readUnit)
  | .readNode p => some (p, Row.readNode)
  | .ackAlarm p => some (p, Row.ackAlarm)
  | .readAlarms p => some (p, Row.readAlarms)
  | .startClose p => some (p, Row.startClose)
  | .readCloseStatus p => some (p, Row.readCloseStatus)
  | .setRate p => some (p, Row.setRate)
  | .setCreditThreshold p => some (p, Row.setCreditThreshold)
  | .readJournal p => some (p, Row.readJournal)
  | .releaseJournal p => some (p, Row.releaseJournal)
  | .setJournalThreshold p => some (p, Row.setJournalThreshold)
  | .coldStart p => some (p, Row.coldStart)
  | .unknownRequest _ => none
  | .requestFrameOverrun _ _ => none
  | .fetch _ _ => none
  | .detach _ => none
  | .attach _ => none
  | .resetAsserted => none
  | .resetRelease _ _ _ _ => none
  | .powerFailWarning => none
  | .safeEntry => none
  | .minuteBoundary => none
  | .sweepVisit => none
  | .walkVisit => none
  | .detectorReading _ _ => none
  | .holdOffExpiry _ => none
  | .matrixSelectSent => none
  | .matrixFrameReceived _ => none
  | .matrixAckTimeout => none
  | .pollTick _ => none
  | .sendingEnd _ => none
  | .blankingExpiry _ => none
  | .startBitConfirmed _ _ _ => none
  | .replyWindowExpiry _ => none
  | .replyCharacterReceived _ _ => none
  | .replyQuietEnd _ => none
  | .requestFrameComplete _ _ => none

/-! ## What blocks leave alone -/

/-- Every port is as it was, but for attention flags. -/
abbrev SamePorts (s t : State) : Prop :=
  ∀ p : Port, { s.port p with flags := (t.port p).flags } = t.port p

/-- What no event of the plant, the sources, the matrix, the accounts or the sweep and walk touches: the
lock table, the clock and the last-known minute, power and reset, the shutdown record and the sector CRCs, the
waiting commands, and the ports but for their attention flags. -/
structure Calm (s t : State) : Prop where
  ports : SamePorts s t
  locks : t.locks = s.locks
  clock : t.clock = s.clock
  lastKnown : t.table.lastKnown = s.table.lastKnown
  record : t.table.record = s.table.record
  crcs : t.crcs = s.crcs
  power : t.power = s.power
  inReset : t.inReset = s.inReset
  startKind : t.startKind = s.startKind
  freeIndex : t.freeIndex = s.freeIndex
  pending : t.pending = s.pending

/-- No entry of the Alarm List with this key is active. -/
abbrev AlarmEnded (s : State) (k : AlarmKind) (o : Nat) : Prop :=
  ∀ e ∈ s.alarms.entries, e.kind = k → e.object = o → e.state = .clearedUnacked

/-- The alarm is listed as active with this info, or the list had no room for it (R110 to R112). -/
abbrev AlarmListed (t : State) (k : AlarmKind) (o : Nat) (info : BitVec 16) : Prop :=
  t.alarms.overflow = true ∨
    ∃ e ∈ t.alarms.entries,
      e.kind = k ∧ e.object = o ∧ e.state ≠ .clearedUnacked ∧ e.info = info

/-- An alarm that was not active in `s` has been raised on the way to `t`: it is listed, unacknowledged, with
this info and the minute of the raise, or the list had no room for it (R109 to R112). -/
abbrev AlarmBegun (s t : State) (k : AlarmKind) (o : Nat) (info : BitVec 16) : Prop :=
  AlarmEnded s k o →
    t.alarms.overflow = true ∨
      ∃ e ∈ t.alarms.entries,
        e.kind = k ∧ e.object = o ∧ e.state = .activeUnacked ∧ e.info = info ∧
          e.raised = t.clock.minute

/-! ## Slots and sources (R24, R31, R43, R46, R47, R49) -/

/-- The cases of R46 in order, for an entry, the sources of `s` and the state before, or no previous state. -/
def SlotCase (s : State) (e : SlotEntry) (before : Option SlotState) (after : SlotState) : Prop :=
  match e with
  | none => after = .unassigned
  | some g =>
    let first := (s.source g.primary).state ≠ .lost
    let second := ∃ k : Source, g.fallback = some k ∧ (s.source k).state ≠ .lost
    let returns := (s.source g.primary).state = .normal ∧ g.autoRevert = true
    (g.muted = true → after = .muted) ∧
    (g.muted = false → before = some .onFallback → second →
      (returns → after = .onPrimary) ∧ (¬returns → after = .onFallback)) ∧
    (g.muted = false → before = some .onFallback → ¬second →
      (first → after = .onPrimary) ∧ (¬first → after = .dark)) ∧
    (g.muted = false → before ≠ some .onFallback →
      (first → after = .onPrimary) ∧ (¬first → second → after = .onFallback) ∧
        (¬first → ¬second → after = .dark))

/-- A slot recomputed on the way from `s` to `t` for the entry `e` from the state `before`: its state by R46, its
selection by R45, its place in the matrix queue by R47, its alarms by R49. -/
structure SlotFollows (s t : State) (i : Slot) (e : SlotEntry) (before : Option SlotState) : Prop where
  state : SlotCase t e before (t.slot i).state
  onPrimary : ∀ g, e = some g → (t.slot i).state = .onPrimary → (t.slot i).selected = some g.primary
  onFallback : ∀ g, e = some g → (t.slot i).state = .onFallback → (t.slot i).selected = g.fallback
  unselected : (t.slot i).state ≠ .onPrimary → (t.slot i).state ≠ .onFallback →
    (t.slot i).selected = none
  confirmed : (t.slot i).confirmed = (s.slot i).confirmed
  attempts : (t.slot i).attempts = (s.slot i).attempts
  queued : (t.slot i).selected ≠ (s.slot i).selected →
    i ∈ t.matrix.queue ∨ t.matrix.tx.map MatrixTx.slot = some i
  unqueued : (t.slot i).selected = (s.slot i).selected → i ∈ t.matrix.queue → i ∈ s.matrix.queue
  darkEnds : (s.slot i).state = .dark → (t.slot i).state ≠ .dark → AlarmEnded t .slotDark i.val
  darkBegins : ∀ g, e = some g → (s.slot i).state ≠ .dark → (t.slot i).state = .dark →
    AlarmBegun s t .slotDark i.val (BitVec.ofNat 16 g.primary.val)
  fallbackEnds : (s.slot i).state = .onFallback → (t.slot i).state ≠ .onFallback →
    AlarmEnded t .slotOnFallback i.val
  fallbackBegins : ∀ g k, e = some g → g.fallback = some k → (s.slot i).state ≠ .onFallback →
    (t.slot i).state = .onFallback → AlarmBegun s t .slotOnFallback i.val (BitVec.ofNat 16 k.val)

/-- A line-up names a source as the primary or the fallback of an assigned slot. -/
abbrev Names (lineup : LineUp) (i : Slot) (k : Source) : Prop :=
  ∃ g, look lineup i = some g ∧ (g.primary = k ∨ g.fallback = some k)

/-- What the Line-Up Unit makes of a change of state of source `k` (R43, R47): the slots that name it are
recomputed, and no other slot changes. -/
structure SourceChangeFollows (s t : State) (k : Source) : Prop where
  named : ∀ i : Slot, Names s.table.active i k →
    SlotFollows s t i (look s.table.active i) (some (s.slot i).state)
  others : ∀ i : Slot, ¬Names s.table.active i k → t.slot i = s.slot i

/-- What a swap makes of a state (R24, R30, R31): the pending line-up is in force, the compositions are those of
the new line-up, the sweep begins at drop 0 with the compositions as they were, each slot is derived from its
state before where both its sources are the same and from no previous state otherwise, SOURCE_LOSS is raised
for every LOST source the new line-up names, and MIXED_GROUP is raised or cleared for each group; nothing else
changes but attention flags. -/
structure Swapped (s t : State) : Prop where
  table : t.table =
    { s.table with
      active := s.table.pendingLineup
      activation := .sweeping 0 s.composition }
  composition : t.composition = compositionOf s.table.pendingLineup
  same : ∀ (i : Slot) (a b : Program), look s.table.active i = some a →
    look s.table.pendingLineup i = some b → a.primary = b.primary → a.fallback = b.fallback →
    SlotFollows s t i (some b) (some (s.slot i).state)
  fresh : ∀ i : Slot,
    (∀ a b : Program, look s.table.active i = some a → look s.table.pendingLineup i = some b →
      ¬(a.primary = b.primary ∧ a.fallback = b.fallback)) →
    SlotFollows s t i (look s.table.pendingLineup i) none
  losses : ∀ k : Source, (s.source k).state = .lost → (∃ i, Names s.table.pendingLineup i k) →
    AlarmListed t .sourceLoss k.val (BitVec.ofNat 16 ((s.source k).lastReading.getD 0))
  mixed : ∀ (g : Group) (a b : Tier), a ≠ b → Set8.has (look t.composition g) a = true →
    Set8.has (look t.composition g) b = true →
    AlarmListed t .mixedGroup g.val (BitVec.ofNat 16 (look t.composition g).toNat)
  unmixed : ∀ g : Group,
    (∀ a b : Tier, Set8.has (look t.composition g) a = true →
      Set8.has (look t.composition g) b = true → a = b) →
    AlarmEnded t .mixedGroup g.val
  ports : SamePorts s t
  rest : t =
    { s with
      table := t.table, composition := t.composition, slots := t.slots, matrix := t.matrix,
      alarms := t.alarms, ports := t.ports }

/-- The matrix link takes up its queue (R52, R173): in NORMAL the slot at the head leaves it, its selection is kept as
the one sent, the SELECT frame carries both, and no limit runs yet; otherwise nothing is sent. -/
abbrev MatrixBegins (t : State) (queue : List Slot) : Prop :=
  (t.power ≠ .normal ∨ queue = [] → t.matrix = { queue := queue, tx := none }) ∧
    ∀ j rest, t.power = .normal → queue = j :: rest →
      let sel : Byte :=
        match (t.slot j).selected with
        | some k => byte k.val
        | none => 64
      t.matrix =
        { queue := rest
          tx :=
            some
              { slot := j, sent := (t.slot j).selected
                frame := [0x01, byte j.val, sel, 0x01 ^^^ byte j.val ^^^ sel], limitRuns := false } }

/-! ## Places of the plant (R98 to R100, R103) -/

/-- The subtree counts of `t` are those of `s` with `units` units, `dead` of them dead, taken from the places
left and added to the places joined, and the outage state of each place whose counts were touched is found
afresh: OUT when it has a unit and every one is dead (R98, R99). -/
structure CountsMove (s t : State) (leftNodes : List NodeNo) (leftRoots : List Leg)
    (joinedNodes : List NodeNo) (joinedRoots : List Leg) (units dead : Nat) : Prop where
  node : ∀ n : NodeNo,
    let a := (s.node n).tally
    let b := (t.node n).tally
    b.units =
        a.units - (if n ∈ leftNodes then units else 0) + (if n ∈ joinedNodes then units else 0) ∧
      b.dead =
        a.dead - (if n ∈ leftNodes then dead else 0) + (if n ∈ joinedNodes then dead else 0) ∧
      b.out =
        if n ∈ leftNodes ∨ n ∈ joinedNodes then decide (1 ≤ b.units ∧ b.dead = b.units) else a.out
  root : ∀ l : Leg,
    let a := s.root l
    let b := t.root l
    b.units =
        a.units - (if l ∈ leftRoots then units else 0) + (if l ∈ joinedRoots then units else 0) ∧
      b.dead =
        a.dead - (if l ∈ leftRoots then dead else 0) + (if l ∈ joinedRoots then dead else 0) ∧
      b.out =
        if l ∈ leftRoots ∨ l ∈ joinedRoots then decide (1 ≤ b.units ∧ b.dead = b.units) else a.out

/-- The place that a feed names on a leg is UP. -/
abbrev FeedUp (s : State) (l : Leg) (f : Feed) : Prop :=
  (∀ n, f = .node n → (s.node n).tally.out = false) ∧ (f = .root → (s.root l).out = false)

/-- The condition of NODE_OUTAGE (R100). -/
abbrev NodeOutage (s : State) (n : NodeNo) : Prop :=
  ∃ place, (s.node n).place = some place ∧ (s.node n).tally.out = true ∧
    FeedUp s place.leg place.parent

/-- The condition of UNIT_DEAD (R100). -/
abbrev UnitOutage (s : State) (u : UnitNo) : Prop :=
  ∃ f, (s.unit u).feeding = some f ∧ (s.unit u).liveness = .dead ∧ FeedUp s (UnitNo.leg u) f

/-- The outage alarms re-derived on the way from `s` to `t`: each whose condition stopped holding is ended, and
each whose condition began to hold is raised with the info of R100. -/
structure OutagesFollow (s t : State) : Prop where
  legEnds : ∀ l : Leg, (s.root l).out = true → (t.root l).out = false → AlarmEnded t .legOutage l.val
  legBegins : ∀ l : Leg, (s.root l).out = false → (t.root l).out = true →
    AlarmBegun s t .legOutage l.val (BitVec.ofNat 16 (t.root l).units)
  nodeEnds : ∀ n : NodeNo, NodeOutage s n → ¬NodeOutage t n → AlarmEnded t .nodeOutage n.val
  nodeBegins : ∀ n : NodeNo, ¬NodeOutage s n → NodeOutage t n →
    AlarmBegun s t .nodeOutage n.val (BitVec.ofNat 16 (t.node n).tally.units)
  unitEnds : ∀ u : UnitNo, UnitOutage s u → ¬UnitOutage t u → AlarmEnded t .unitDead u.val
  unitBegins : ∀ (u : UnitNo) (f : Feed), ¬UnitOutage s u → UnitOutage t u →
    (t.unit u).feeding = some f →
    AlarmBegun s t .unitDead u.val
      (match f with
       | .node n => BitVec.ofNat 16 n.val
       | .root => BitVec.ofNat 16 (64 + (UnitNo.leg u).val))

/-- Whether a place is ON_POWER_ALARM (R96). -/
def powerStateOf (s : State) (l : Leg) (f : Feed) : Bool :=
  match f with
  | .node n => (s.node n).tally.onPowerAlarm
  | .root => (s.root l).onPowerAlarm

/-- A place feeds this power-alarm unit directly. -/
abbrev PowerUnit (s : State) (l : Leg) (f : Feed) (u : UnitNo) : Prop :=
  UnitNo.leg u = l ∧ (s.unit u).feeding = some f ∧ (s.unit u).powerAlarm = true

/-- The power state of a place found afresh on the way from `s` to `t`, with NODE_POWER (R103): its info is the
lowest supply reading among the power-alarm units, none counting as 0. -/
structure PowerFollows (s t : State) (l : Leg) (f : Feed) : Prop where
  state : powerStateOf t l f = true ↔ ∃ u, PowerUnit t l f u
  ends : powerStateOf s l f = true → powerStateOf t l f = false →
    AlarmEnded t .nodePower (match f with
      | .node n => n.val
      | .root => 64 + l.val)
  begins : powerStateOf s l f = false → ∀ u : UnitNo, PowerUnit t l f u →
    (∀ v, PowerUnit t l f v → (t.unit u).supply.getD 0 ≤ (t.unit v).supply.getD 0) →
    AlarmBegun s t .nodePower (match f with
      | .node n => n.val
      | .root => 64 + l.val) (BitVec.ofNat 16 ((t.unit u).supply.getD 0))

/-! ## Minutes (R121, R123, R125, R135) -/

/-- A drop that waits for its catch-up close: lagging, and ACTIVE or SUSPENDED (R131, R134). -/
abbrev Lagging (s : State) (d : Drop) : Prop :=
  (s.sub d).cycle ≠ s.table.cycleNumber ∧ ((s.sub d).state = .active ∨ (s.sub d).state = .suspended)

/-- Every counter of a record within its range (R123). -/
abbrev CountersInRange (x : Subscriber) : Prop :=
  ∀ t : Tier,
    look x.service t ≤ 131071 ∧ look x.credited t ≤ 131071 ∧ look x.unjudged t ≤ 131071

/-- The minutes of the open segment up to a minute, for a tier. -/
def Subscriber.elapsed (x : Subscriber) (now : Nat) (t : Tier) : Nat :=
  if Set8.has x.seg.tiers t then now - x.seg.start.getD now else 0

/-- The service minutes of a tier with the open segment added up to a minute (R121, R123). -/
def Subscriber.serviceAt (x : Subscriber) (now : Nat) (t : Tier) : Nat :=
  if x.seg.kind = .service then min 131071 (look x.service t + x.elapsed now t) else look x.service t

/-- The unjudged minutes of a tier with the open segment added up to a minute (R121, R123). -/
def Subscriber.unjudgedAt (x : Subscriber) (now : Nat) (t : Tier) : Nat :=
  if x.seg.kind = .outage then min 131071 (look x.unjudged t + x.elapsed now t) else look x.unjudged t

/-- An addition of the open segment up to a minute saturates a counter (R123). -/
abbrev FoldSaturates (x : Subscriber) (now : Nat) : Prop :=
  ∃ t : Tier,
    (x.seg.kind = .service ∧ 131071 < look x.service t + x.elapsed now t) ∨
      (x.seg.kind = .outage ∧ 131071 < look x.unjudged t + x.elapsed now t)

/-- The record `y` holds the counters of `x` folded at a minute, and a segment that starts there (R121, R123). -/
structure Folded (x y : Subscriber) (now : Nat) : Prop where
  start : y.seg.start = some now
  service : ∀ t : Tier, look y.service t = x.serviceAt now t
  unjudged : ∀ t : Tier, look y.unjudged t = x.unjudgedAt now t
  credited : y.credited = x.credited
  saturated : y.saturated = true ↔ x.saturated = true ∨ FoldSaturates x now

/-- The record `y` holds the counters of `x` folded at a minute and, when `judged`, judged as of it: the unjudged
minutes go to credited minutes when the outage's length reaches the threshold and to service minutes otherwise
(R121, R123, R125). -/
structure Judged (x y : Subscriber) (now : Nat) (began : Option Nat) (threshold : Nat)
    (judged : Prop) : Prop where
  service : ∀ t : Tier,
    (judged → now - began.getD now < threshold →
      look y.service t = min 131071 (x.serviceAt now t + x.unjudgedAt now t)) ∧
    (¬judged ∨ threshold ≤ now - began.getD now → look y.service t = x.serviceAt now t)
  credited : ∀ t : Tier,
    (judged → threshold ≤ now - began.getD now →
      look y.credited t = min 131071 (look x.credited t + x.unjudgedAt now t)) ∧
    (¬judged ∨ now - began.getD now < threshold → look y.credited t = look x.credited t)
  unjudged : ∀ t : Tier,
    (judged → look y.unjudged t = 0) ∧ (¬judged → look y.unjudged t = x.unjudgedAt now t)
  saturated : y.saturated = true ↔
    x.saturated = true ∨ FoldSaturates x now ∨
      ∃ t : Tier, judged ∧
        ((threshold ≤ now - began.getD now ∧ 131071 < look x.credited t + x.unjudgedAt now t) ∨
          (now - began.getD now < threshold ∧ 131071 < x.serviceAt now t + x.unjudgedAt now t))

/-- An outage stands open in a record folded at a minute: the segment is OUTAGE or some unjudged counter is above
0 (R10, R135). -/
abbrev OutageOpenAt (x : Subscriber) (now : Nat) : Prop :=
  x.seg.kind = .outage ∨ ∃ t : Tier, 0 < x.unjudgedAt now t

/-- The journal of `t` holds, at a sequence number, the CYCLE record of drop `d` (R136): the accounts of `x`
folded and judged at the stamp, priced from the current rates. -/
def CycleRecorded (s t : State) (d : Drop) (x : Subscriber) (early : Bool) (sequence : BitVec 32) :
    Prop :=
  ∀ stamp, s.table.close.stamp = some stamp →
    ∃ y : Subscriber,
      Judged x y stamp (s.unit (Drop.unit d)).outageBegan s.table.creditThreshold
          (OutageOpenAt x stamp) ∧
        ∀ i : Fin 4096, i.val = sequence.toNat % 4096 →
          look t.table.journal.slots i =
            BillRecord.bytes
              { isCycle := true, saturated := y.saturated
                outageOpen := decide (OutageOpenAt x stamp), early := early, drop := d
                account := x.account.getD 0, state := x.state
                cycle := s.table.close.closingCycle
                periodStart := s.table.close.closingStart.getD 0, periodEnd := stamp
                lines := tierLines s.table.currentRates y, charges := x.charges }
              sequence

/-- The journal of `t` holds, at a sequence number, the FINAL record of drop `d` (R138): the accounts of `x`
folded and judged at the minute of the request, priced from the current rates. -/
def FinalRecorded (s t : State) (d : Drop) (x : Subscriber) (now : Nat) (sequence : BitVec 32) : Prop :=
  ∃ y : Subscriber,
    Judged x y now (s.unit (Drop.unit d)).outageBegan s.table.creditThreshold
        (OutageOpenAt x now) ∧
      ∀ i : Fin 4096, i.val = sequence.toNat % 4096 →
        look t.table.journal.slots i =
          BillRecord.bytes
            { isCycle := false, saturated := y.saturated
              outageOpen := decide (OutageOpenAt x now), early := false, drop := d
              account := x.account.getD 0, state := x.state
              cycle := s.table.cycleNumber, periodStart := s.table.cycleStart.getD 0
              periodEnd := now, lines := tierLines s.table.currentRates y, charges := x.charges }
            sequence

/-- The record of a lagging drop right after its catch-up close at a stamp: the counters, the saturated flag and
the charges empty, the segment from the stamp or its later start (R135). -/
def Subscriber.caughtUp (x : Subscriber) (stamp : Nat) : Subscriber :=
  { x with
    service := Vector.replicate 8 0
    credited := Vector.replicate 8 0
    unjudged := Vector.replicate 8 0
    saturated := false
    charges := []
    seg := { x.seg with start := x.seg.start.map fun b => max b stamp } }

/-- The record of a drop to which a fold adds minutes: as it stands, or, for a lagging drop that is ACTIVE or SUSPENDED, as
its catch-up close leaves it (R121, R135). -/
abbrev FoldBase (s : State) (d : Drop) (x : Subscriber) : Prop :=
  (¬Lagging s d ∧ x = s.sub d) ∨
    (Lagging s d ∧ ∃ stamp, s.table.close.stamp = some stamp ∧ x = (s.sub d).caughtUp stamp)

/-- The drops of a list have their catch-up closes made on the way from `s` to `t`, in the order of the list: each
leaves an EARLY CYCLE record and is lagging no more, and nothing else is written to the journal (R134 to R136). The
outages are judged by the unit table of `before`. -/
structure ClosedEarly (before s t : State) (closed : List Drop) : Prop where
  written : t.table.journal =
    { s.table.journal with
      slots := t.table.journal.slots
      written := s.table.journal.written + BitVec.ofNat 32 closed.length }
  others : ∀ i : Fin 4096,
    (∀ n : Nat, n < closed.length →
      i.val ≠ (s.table.journal.written + BitVec.ofNat 32 n).toNat % 4096) →
    look t.table.journal.slots i = look s.table.journal.slots i
  reserved : t.table.close = { s.table.close with reserved := s.table.close.reserved - closed.length }
  current : ∀ d ∈ closed, (t.sub d).cycle = s.table.cycleNumber ∧ (t.sub d).charges = []
  recorded : ∀ d ∈ closed, CountersInRange (s.sub d) →
    CycleRecorded before t d (s.sub d) true
      (s.table.journal.written + BitVec.ofNat 32 (closed.idxOf d))

/-- What a miss against unit `u` does (R93, R98, R100, R104, R122, R124, R135): the entry counts it and becomes SUSPECT
or DEAD; entering DEAD dates the outage from the first miss, folds the SERVICE segments of its drops there, a lagging
one after its catch-up close, and moves the dead counts and the outage alarms along its path. While the clock is
NOT_SET the segments are replaced and no minutes are added. What becomes of a segment whose held set differs from the
recomputed one is the model's reading of R34 and R119 (log entry 12): a SERVICE segment is folded with its held set at
the outage's beginning, as R124 says, and a NONE segment, which R124 leaves as it stands, at the current minute, a
lagging one after its catch-up close with an EARLY CYCLE record; the segment left holds the recomputed set, OUTAGE or,
where that set is empty, NONE. -/
structure MissCounted (s t : State) (u : UnitNo) : Prop where
  entry :
    let x := s.unit u
    let n := min 7 (x.misses + 1)
    let first := if x.misses = 0 then s.clock.minute else x.firstMiss
    let limit := (s.legSettings (UnitNo.leg u)).missLimit
    t.unit u =
      { x with
        misses := n
        firstMiss := first
        liveness :=
          if limit ≤ n then .dead
          else if x.liveness = .alive then .suspect
          else x.liveness
        outageBegan := if limit ≤ n ∧ x.liveness ≠ .dead then first else x.outageBegan }
  stays : (s.unit u).liveness = .dead ∨ (t.unit u).liveness ≠ .dead →
    t.roots = s.roots ∧ t.table.nodes = s.table.nodes ∧ t.table.subs = s.table.subs ∧
      t.table.journal = s.table.journal ∧ t.table.close = s.table.close
  enters : (s.unit u).liveness ≠ .dead → (t.unit u).liveness = .dead →
    OutagesFollow s t ∧
      ∀ f, (s.unit u).feeding = some f → (s.pathFrom f).Nodup →
        CountsMove s t [] [] (s.pathFrom f) [UnitNo.leg u] 0 1
  segments : (s.unit u).liveness ≠ .dead → (t.unit u).liveness = .dead →
    ∀ (d : Drop) (x : Subscriber) (start began : Nat), Drop.unit d = u → s.clock.minute ≠ none →
      FoldBase s d x → (s.sub d).seg.tiers = s.deliveredNow d →
      (t.unit u).outageBegan = some began → x.seg.start = some start →
      ((s.sub d).seg.kind = .service → s.deliveredNow d ≠ 0 →
        Folded x (t.sub d) (max start began) ∧ (t.sub d).seg.kind = .outage ∧
          (t.sub d).seg.tiers = s.deliveredNow d) ∧
      ((s.sub d).seg.kind = .none → t.sub d = s.sub d)
  unswept : (s.unit u).liveness ≠ .dead → (t.unit u).liveness = .dead →
    ∀ (d : Drop) (x : Subscriber) (now : Nat), Drop.unit d = u → s.clock.minute = some now →
      FoldBase s d x → (s.sub d).seg.tiers ≠ s.deliveredNow d →
      let left :=
        (t.sub d).seg.kind = (if s.deliveredNow d = 0 then .none else .outage) ∧
          (t.sub d).seg.tiers = s.deliveredNow d
      ((s.sub d).seg.kind = .none → Folded x (t.sub d) now ∧ left) ∧
        ((s.sub d).seg.kind = .service →
          ∀ start began : Nat, (t.unit u).outageBegan = some began → x.seg.start = some start →
            Folded x (t.sub d) (max start began) ∧ left)
  notSet : (s.unit u).liveness ≠ .dead → (t.unit u).liveness = .dead → s.clock.minute = none →
    ∀ d : Drop, Drop.unit d = u →
      t.sub d =
        { s.sub d with
          seg :=
            { start := none
              kind := if s.deliveredNow d = 0 then .none else .outage
              tiers := s.deliveredNow d } }
  others : ∀ d : Drop, Drop.unit d ≠ u → t.sub d = s.sub d
  closes : (s.unit u).liveness ≠ .dead → (t.unit u).liveness = .dead →
    ClosedEarly { s with table := { s.table with units := t.table.units } } s t
      (if s.clock.minute = none then []
       else
        (List.finRange 2048).filter fun d =>
          decide
            (Drop.unit d = u ∧ Lagging s d ∧
              ((s.sub d).seg.kind = .service ∨ (s.sub d).seg.tiers ≠ s.deliveredNow d)))

/-- What a VALID status reply of the unit does when it is DEAD (R94, R98, R100, R104, R125, R126, R135): its drops are
folded and judged at the current minute, a lagging one after its catch-up close, and the dead counts and outage
alarms follow along its path. -/
structure UnitReturned (s t : State) (u : UnitNo) : Prop where
  outages : OutagesFollow s t
  counts : ∀ f, (s.unit u).feeding = some f → (s.pathFrom f).Nodup →
    CountsMove s t (s.pathFrom f) [UnitNo.leg u] [] [] 0 1
  judged : ∀ (d : Drop) (x : Subscriber) (now : Nat), Drop.unit d = u →
    s.clock.minute = some now → FoldBase s d x → CountersInRange (s.sub d) →
    (s.sub d).seg.kind ≠ .service →
    Judged x (t.sub d) now (s.unit u).outageBegan s.table.creditThreshold True ∧
      (t.sub d).seg.start = some now ∧ (t.sub d).seg.kind ≠ .outage
  closes : ClosedEarly s s t
    (if s.clock.minute = none then []
     else (List.finRange 2048).filter fun d => decide (Drop.unit d = u ∧ Lagging s d))
  unjudged : s.clock.minute = none → ∀ d : Drop, Drop.unit d = u →
    (t.sub d).seg.start = none ∧ (t.sub d).seg.kind ≠ .outage ∧
      t.sub d = { s.sub d with seg := (t.sub d).seg }

/-- The image of a tap port in a status block: two bytes from the third on, of the first bit 7 alone (R172). -/
def blockImage (block : List Byte) (port : TapPort) : Image where
  on := decide (0x80 ≤ (block.getD (2 + 2 * port.val) 0).toNat)
  pass := block.getD (3 + 2 * port.val) 0

/-- The confirmed image of a port of unit `u` changes or becomes present with a status block (R83). -/
abbrev ImageChanged (s : State) (u : UnitNo) (block : List Byte) (port : TapPort) : Prop :=
  (s.unit u).images.map (fun im => look im port) ≠ some (blockImage block port)

/-- What a VALID reply with a status block does when its target, unit `u` of leg `l`, is installed, whether it answers a
POLL or a SETPORTS (R65, R70, steps 1 to 3 of R83): it is counted and ends the run of line errors and LEG_NOISE; the unit
is ALIVE with no misses (R94) and the block's flags, supply reading, power alarm (R102) and images, UNIT_TAMPER and
NODE_POWER following (R101, R103); a unit that was DEAD returns; each drop whose image changed, or that a sweep has not
reached (R34), has its delivered tier set recomputed and is folded where the set differs (R119), a lagging one after its
catch-up close (R135); no other record is written, no other unit and no drop of another unit changes. The order
attempts, the hold and the order queue are those of step 5, which differs between the two kinds. -/
structure StatusApplied (s t : State) (l : Leg) (u : UnitNo) (block : List Byte) : Prop where
  calm : Calm s t
  counted : (t.leg l).counters.validReplies = (s.leg l).counters.validReplies + 1
  quiet : (t.leg l).lineErrors = 0 ∧ AlarmEnded t .legNoise l.val
  others : ∀ v : UnitNo, v ≠ u → t.unit v = s.unit v
  entry :
    let x := s.unit u
    let flags := block.getD 0 0 &&& 0x07
    let supply := (block.getD 1 0).toNat
    let warning := (s.legSettings l).warning
    t.unit u =
      { x with
        liveness := .alive
        misses := 0
        firstMiss := none
        outageBegan := if x.liveness = .dead then none else x.outageBegan
        images := some (tabulate 16 (blockImage block))
        attempts := (t.unit u).attempts
        held := (t.unit u).held
        flags := flags
        supply := some supply
        powerAlarm :=
          if flags &&& 0x04 ≠ 0 ∨ supply < warning then true
          else if min 255 (warning + 4) ≤ supply then false
          else x.powerAlarm }
  tamperBegins : block.getD 0 0 &&& 0x02 ≠ 0 → (s.unit u).flags &&& 0x02 = 0 →
    AlarmBegun s t .unitTamper u.val ((block.getD 0 0 &&& 0x07).zeroExtend 16)
  tamperEnds : block.getD 0 0 &&& 0x02 = 0 → (s.unit u).flags &&& 0x02 ≠ 0 →
    AlarmEnded t .unitTamper u.val
  power : (t.unit u).powerAlarm ≠ (s.unit u).powerAlarm →
    ∀ f, (s.unit u).feeding = some f → PowerFollows s t l f
  samePower : (t.unit u).powerAlarm = (s.unit u).powerAlarm →
    ∀ (k : Leg) (f : Feed), powerStateOf t k f = powerStateOf s k f
  returned : (s.unit u).liveness = .dead → UnitReturned s t u
  stayed : (s.unit u).liveness ≠ .dead →
    CountsMove s t [] [] [] [] 0 0 ∧
      ClosedEarly s s t
        (if s.clock.minute = none then []
         else
          (List.finRange 2048).filter fun d =>
            decide
              (Drop.unit d = u ∧ Lagging s d ∧
                (ImageChanged s u block (Drop.port d) ∨ s.unswept d = true) ∧
                t.deliveredNow d ≠ (s.sub d).seg.tiers))
  otherDrops : ∀ d : Drop, Drop.unit d ≠ u → t.sub d = s.sub d
  recomputed : ∀ port : TapPort,
    (ImageChanged s u block port ∨
      ∃ (d : Drop) (was : Composition),
        s.table.activation = .sweeping d was ∧ d ≤ dropOf u port) →
    (t.sub (dropOf u port)).seg.tiers = t.deliveredNow (dropOf u port) ∧
      ∀ (now : Nat) (y : Subscriber), (s.unit u).liveness ≠ .dead → s.clock.minute = some now →
        FoldBase s (dropOf u port) y →
        t.deliveredNow (dropOf u port) ≠ (s.sub (dropOf u port)).seg.tiers →
        Folded y (t.sub (dropOf u port)) now

/-- What a change of a subscriber record does for orders (R5, R15): where the desired image changed the unit's hold is
cleared and ORDER_FAILED ended, no other unit changes, and the unit joins the tail of its order queue where it is
installed, not held, and an image differs or none is confirmed. -/
structure OrdersFollow (s t : State) (d : Drop) : Prop where
  released : t.desired d ≠ s.desired d →
    t.unit (Drop.unit d) = { s.unit (Drop.unit d) with held := false, attempts := 0 } ∧
      AlarmEnded t .orderFailed (Drop.unit d).val
  kept : t.desired d = s.desired d → t.unit (Drop.unit d) = s.unit (Drop.unit d)
  otherUnits : ∀ v : UnitNo, v ≠ Drop.unit d → t.unit v = s.unit v
  queue :
    let u := Drop.unit d
    let k := UnitNo.onLeg u
    let before := (s.leg (UnitNo.leg u)).orderQueue
    let joins := (t.unit u).feeding ≠ none ∧ (t.unit u).held = false ∧
      ∃ port : TapPort,
        (t.unit u).images.map (fun im => look im port) ≠ some (t.desired (dropOf u port))
    (joins →
      (t.leg (UnitNo.leg u)).orderQueue = if k ∈ before then before else before ++ [k]) ∧
    (¬joins → (t.leg (UnitNo.leg u)).orderQueue = before)

/-- What every subscriber request that changes a record leaves beside the record (R5, R15): the drop is not
lagging, its segment holds the delivered tier set as it now stands and was folded at the current minute where
that set differs, the unit's hold is cleared and ORDER_FAILED ended where the desired image changed, the unit waits in
its order queue where an image differs, and no other record and no other unit changes. A lagging drop that is ACTIVE or SUSPENDED
has its catch-up close made first, with an EARLY CYCLE record (R135, R136); no other drop writes a record. -/
structure ChangePath (s t : State) (d : Drop) : Prop where
  cycle : (t.sub d).cycle = s.table.cycleNumber
  delivered : (t.sub d).seg.tiers = t.deliveredNow d
  folded : t.deliveredNow d ≠ (s.sub d).seg.tiers → (t.sub d).seg.start = s.clock.minute
  others : ∀ e : Drop, e ≠ d → t.sub e = s.sub e
  journal : (s.sub d).cycle = s.table.cycleNumber ∨
      ((s.sub d).state ≠ .active ∧ (s.sub d).state ≠ .suspended) →
    t.table.journal = s.table.journal
  recorded : (s.sub d).cycle ≠ s.table.cycleNumber →
    (s.sub d).state = .active ∨ (s.sub d).state = .suspended → CountersInRange (s.sub d) →
    t.table.journal.written = s.table.journal.written + 1 ∧
      t.table.close.reserved = s.table.close.reserved - 1 ∧ (t.sub d).charges = [] ∧
      CycleRecorded s t d (s.sub d) true s.table.journal.written
  orders : OrdersFollow s t d
  calm : Calm s t

/-- The minutes of a drop over a request that keeps its accounts (R5, R121, R123, R135): a fold at the current
minute where the delivered tier set changed, of the record as it stood or, for a lagging drop, as its catch-up
close left it; otherwise the counters as they stood there. -/
structure MinutesFollow (s t : State) (d : Drop) (x : Subscriber) : Prop where
  fold : ∀ now, s.clock.minute = some now → t.deliveredNow d ≠ x.seg.tiers →
    CountersInRange x → Folded x (t.sub d) now
  stay : s.clock.minute = none ∨ t.deliveredNow d = x.seg.tiers →
    (t.sub d).service = x.service ∧ (t.sub d).credited = x.credited ∧
      (t.sub d).unjudged = x.unjudged ∧ (t.sub d).saturated = x.saturated

/-! ## Invariants -/

/-- A lock of the lock table (R154): no port waits for a lock it holds or twice, a free lock has no waiter,
and a DETACHED port neither holds nor waits. -/
abbrev LockSound (s : State) (x : Lock) : Prop :=
  x.waiters.Nodup ∧
    (∀ p : Port, x.holder = some p → p ∉ x.waiters ∧ s.attached p = true) ∧
    (x.holder = none → x.waiters = []) ∧ ∀ p : Port, p ∈ x.waiters → s.attached p = true

/-- The lock table as R154 describes it. -/
abbrev LocksSound (s : State) : Prop := ∀ n : LockNo, LockSound s (s.lock n)

/-- Whether an activation context is DEFERRED. -/
def Activation.isDeferred (a : Activation) : Bool :=
  match a with
  | .deferred _ => true
  | _ => false

/-- An activation is DEFERRED only while lock 0 has a holder, in NORMAL and out of reset (R28, R29). -/
abbrev DeferredSound (s : State) : Prop :=
  s.inReset = false → s.power = .normal → s.table.activation.isDeferred = true →
    (s.lock 0).holder ≠ none

/-- An alarm entry as R107 and R108 describe it. -/
abbrev AlarmEntrySound (e : AlarmEntry) : Prop :=
  e.object < e.kind.objects ∧ e.bounce ≤ 255 ∧ (e.state ≠ .clearedUnacked → e.cleared = none)

/-- The Alarm List as R107 describes it: at most 64 entries, no two with one key. -/
abbrev AlarmsSound (s : State) : Prop :=
  s.alarms.entries.length ≤ 64 ∧
    (s.alarms.entries.map fun e => (e.kind, e.object)).Nodup ∧
    s.alarms.unlisted ≤ 65535 ∧ ∀ e ∈ s.alarms.entries, AlarmEntrySound e

/-- The Service Clock as R177 describes it; the last-known minute is the minute count while it runs. -/
abbrev ClockSound (s : State) : Prop :=
  s.clock.seconds ≤ 59 ∧ s.clock.tenths ≤ 9 ∧ s.clock.holdBack ≤ 60 ∧
    s.table.lastKnown ≤ 4294967295 ∧ s.table.record.minute ≤ 4294967295 ∧
    (s.clock.minute = none → s.clock.seconds = 0 ∧ s.clock.holdBack = 0) ∧
    ∀ m, s.clock.minute = some m → s.table.lastKnown = m

/-- A subscriber record as R1, R120 and R123 describe it, on a unit that is DEAD or not. -/
abbrev RecordSound (dead : Bool) (x : Subscriber) : Prop :=
  (x.account = none ↔ x.state = .vacant) ∧ (x.tiers = none ↔ x.state = .vacant) ∧
    x.charges.length ≤ 4 ∧
    (∀ t : Tier,
      look x.service t ≤ 131071 ∧ look x.credited t ≤ 131071 ∧ look x.unjudged t ≤ 131071) ∧
    (x.state ≠ .active → x.seg.tiers = 0) ∧
    (x.seg.kind = .none ↔ x.seg.tiers = 0) ∧ (x.seg.kind = .outage → dead = true) ∧
    (x.seg.kind = .service → dead = false)

/-- The Subscriber Register: every record is sound, and the subscriber count is the number of ACTIVE and
SUSPENDED records (R1, R2, R120). -/
abbrev RegisterSound (s : State) : Prop :=
  (∀ d : Drop, RecordSound (s.isDead (Drop.unit d)) (s.sub d)) ∧
    s.subscriberCount = countSubscribers s.table.subs

/-- The queues of a leg (R74 to R76): each unit at most once, only installed units, and promotion mode
consistent with the length of the due-poll queue. -/
abbrev LegQueuesSound (s : State) (l : Leg) : Prop :=
  (s.leg l).dueQueue.Nodup ∧ (s.leg l).orderQueue.Nodup ∧
    (∀ u ∈ (s.leg l).dueQueue, s.installed (unitOf l u) = true) ∧
    (∀ u ∈ (s.leg l).orderQueue, s.installed (unitOf l u) = true) ∧
    ((s.leg l).promotion = true → 3 ≤ (s.leg l).dueQueue.length) ∧
    ((s.leg l).promotion = false → (s.leg l).dueQueue.length ≤ 5)

/-- Every queue of the controller: the leg queues, and the matrix queue with each slot at most once (R51). -/
abbrev QueuesSound (s : State) : Prop :=
  s.matrix.queue.Nodup ∧ ∀ l : Leg, LegQueuesSound s l

/-- The matrix link does not wait (R52): in NORMAL, with no transaction in flight no slot stands in its queue. -/
abbrev MatrixSound (s : State) : Prop :=
  s.inReset = false → s.power = .normal → s.matrix.tx = none → s.matrix.queue = []

/-- The journal has room for every record the close still owes (R131, R134, R145): the records held and the slots
reserved are at most 4,096, a slot is reserved for each drop that waits for its catch-up close and for no other, none
of these stands below the position of a walk, and there is none with no walk under way. -/
abbrev JournalSound (s : State) : Prop :=
  let c := s.table.close
  s.table.journal.held + c.reserved ≤ 4096 ∧
    c.reserved = (List.finRange 2048).countP (fun d => decide (Lagging s d)) ∧
    (c.walking = true → ∀ d : Drop, d < c.position → ¬Lagging s d) ∧
    (c.walking = false → ∀ d : Drop, ¬Lagging s d)

/-- No leg waits (R81): in NORMAL a RUNNING leg with no transaction in flight has no candidate for one. -/
abbrev ArbiterSound (s : State) : Prop :=
  s.inReset = false → s.power = .normal →
    ∀ l : Leg, s.run l = .running → (s.leg l).tx = none → s.candidate l = none

/-- A unit that is not installed holds the values of R90; outage began is present only while DEAD. -/
abbrev UnitSound (x : UnitEntry) : Prop :=
  (x.feeding = none → x = UnitEntry.uninstalled) ∧
    (x.outageBegan ≠ none → x.liveness = .dead) ∧ x.misses ≤ 7 ∧ x.attempts ≤ 3

/-- The unit table as R90 describes it. -/
abbrev UnitsSound (s : State) : Prop := ∀ u : UnitNo, UnitSound (s.unit u)

/-- A feed names the root, or a node that is installed on this leg (R96, R97). -/
abbrev FeedSound (s : State) (l : Leg) (f : Feed) : Prop :=
  ∀ n : NodeNo, f = .node n → (s.node n).place.map NodePlace.leg = some l

/-- The counts and the outage state of a place below which these units stand (R96, R98). -/
structure TallySound (s : State) (x : Tally) (below : UnitNo → Bool) : Prop where
  units : x.units = (List.finRange 128).countP below
  dead : x.dead = (List.finRange 128).countP fun u => below u && s.isDead u
  out : x.out = true ↔ 1 ≤ x.units ∧ x.dead = x.units

/-- The plant map (R90, R96 to R99, R103): what feeds a unit or a node is the root or an installed node of its leg; no
node stands on its own path, and none deeper than 8; the counts and the outage state of every place are those of the
units below it, its power state that of the units it feeds; a node that is not installed holds nothing. -/
structure PlantSound (s : State) : Prop where
  units : ∀ (u : UnitNo) (f : Feed), (s.unit u).feeding = some f → FeedSound s (UnitNo.leg u) f
  nodes : ∀ (n : NodeNo) (p : NodePlace), (s.node n).place = some p →
    FeedSound s p.leg p.parent ∧ n ∉ s.pathFrom p.parent ∧ s.depth n ≤ 8
  absent : ∀ n : NodeNo, (s.node n).place = none → (s.node n).tally = Tally.zero
  node : ∀ n : NodeNo, TallySound s (s.node n).tally fun u =>
    match (s.unit u).feeding with
    | some f => decide (n ∈ s.pathFrom f)
    | none => false
  root : ∀ l : Leg, TallySound s (s.root l) fun u =>
    s.installed u && decide (UnitNo.leg u = l)
  power : ∀ (l : Leg) (f : Feed), FeedSound s l f →
    (powerStateOf s l f = true ↔ ∃ u, PowerUnit s l f u)

end Sys2Proof.Machine
end

