-- ==== Sys2Proof/Certificates/Slice0/Obligations.lean ====
section
/-!
DEFINITION. The statements about the Dalisca 2048 that the provers take up. Each names the rules it rests on
in its docstring. `Serving` says that a request is being carried out and passes the checks before its own
arguments; a statement about a request gives the state after it whole, or names what may change.
-/

open Sys2Proof Sys2Proof.Machine

/-! ## The machine as a whole -/

/-- One step takes the command at the front of the queue and carries it out on the state with the queue's
rest. -/
def Obligations.StepTakesFrontCommand : Prop :=
  ∀ (i : Instr) (rest : List Instr) (s : State),
    step { s with pending := i :: rest } = exec i { s with pending := rest }

/-- Every command answers a next state, in every state, and leaves the waiting commands alone. -/
def Obligations.EveryCommandCompletesAndLeavesTheQueue : Prop :=
  ∀ (i : Instr) (s : State), ∃ t : State, exec i s = .next t ∧ t.pending = s.pending

/-- With no command waiting, 100 ms pass: the seconds and tenths of a running clock go on by a tenth and wait
at 59.9, the hold-offs that run go down by one and wait at one, and nothing else changes. That a step on an
empty queue is 100 ms is the model's choice (log entry 5). -/
def Obligations.IdleStepPassesTime : Prop :=
  ∀ s : State, s.pending = [] →
    (s.inReset = true → step s = .next s) ∧
    (s.inReset = false →
      ∃ t : State, step s = .next t ∧ t = { s with clock := t.clock, sources := t.sources } ∧
        t.clock.minute = s.clock.minute ∧ t.clock.holdBack = s.clock.holdBack ∧
        (s.clock.minute = none ∨ s.power ≠ .normal → t.clock = s.clock) ∧
        (s.clock.minute ≠ none → s.power = .normal → s.clock.seconds ≤ 59 → s.clock.tenths ≤ 9 →
          t.clock.seconds * 10 + t.clock.tenths =
            min 599 (s.clock.seconds * 10 + s.clock.tenths + 1) ∧ t.clock.tenths ≤ 9) ∧
        ∀ k : Source,
          t.source k =
            { s.source k with
              holdOff := (s.source k).holdOff.map fun n => if 1 < n then n - 1 else n })

/-- The state after reset meets every invariant. -/
def Obligations.ResetIsSound : Prop :=
  LocksSound State.reset ∧ DeferredSound State.reset ∧ AlarmsSound State.reset ∧
    ClockSound State.reset ∧ RegisterSound State.reset ∧ UnitsSound State.reset ∧
    QueuesSound State.reset ∧ ArbiterSound State.reset ∧ MatrixSound State.reset ∧
    JournalSound State.reset ∧ PlantSound State.reset

/-- R154, over every step: no port waits for a lock it holds or twice for one lock, a free lock has an empty
waiter list, and a DETACHED port neither holds nor waits. -/
def Obligations.LockTableStaysSound : Prop :=
  ∀ s t : State, LocksSound s → step s = .next t → LocksSound t

/-- R28 and R29, over every step: an activation is DEFERRED only while lock 0 has a holder, out of reset and
before a SHUTDOWN. -/
def Obligations.ActivationIsDeferredOnlyWhileLockZeroIsHeld : Prop :=
  ∀ s t : State, DeferredSound s → step s = .next t → DeferredSound t

/-- R107, over every step: at most 64 entries, no two with one key, every object in its kind's range, every
bounce count at most 255, and no cleared minute in an active entry. -/
def Obligations.AlarmListStaysSound : Prop :=
  ∀ s t : State, AlarmsSound s → step s = .next t → AlarmsSound t

/-- R177: while the Service Clock is RUNNING its minute never decreases. -/
def Obligations.ServiceMinuteNeverDecreases : Prop :=
  ∀ (s t : State) (m n : Nat), step s = .next t → s.clock.minute = some m → t.clock.minute = some n →
    m ≤ n

/-- R177 and R178, over every step: seconds at most 59, hold-back at most 60, no seconds and no hold-back
while NOT_SET, every minute in 32 bits, and the last-known minute the minute count while RUNNING. -/
def Obligations.ServiceClockStaysSound : Prop :=
  ∀ s t : State, ClockSound s → step s = .next t → ClockSound t

/-- R1, R2, R90, R120 and R123, over every step: account and tiers absent exactly while VACANT, at most four
charges, counters at most 131,071, an empty tier set unless ACTIVE, OUTAGE segments only on DEAD units and
SERVICE segments only on others, the subscriber count that of the ACTIVE and SUSPENDED records, and the unit
table as R90 describes it. With them, over every step, the plant map of R96 to R99 and R103: nothing is fed by a
node that is not installed on its leg, no node stands on its own path or below depth 8, and the counts, the OUT
state and the power state of every place follow the unit table. -/
def Obligations.RegisterAndUnitTableStaySound : Prop :=
  (∀ s t : State, RegisterSound s → UnitsSound s → step s = .next t → RegisterSound t ∧ UnitsSound t) ∧
  ∀ s t : State, UnitsSound s → PlantSound s → step s = .next t → PlantSound t

/-- R51, R52 and R74 to R76, over every step: each queue holds each slot or unit at most once, only installed
units queue, promotion mode is on only with three or more due polls, and off only with five or fewer; and no
step in NORMAL and out of reset leaves the matrix link free with a slot in its queue. -/
def Obligations.QueuesStaySound : Prop :=
  (∀ s t : State, QueuesSound s → step s = .next t → QueuesSound t) ∧
  ∀ s t : State, MatrixSound s → step s = .next t → MatrixSound t

/-! ## The course of a request -/

/-- R171: the code, the roles, the lock and the body length of each request. -/
def Obligations.RequestTableIsTheManuals : Prop :=
  (∀ c : Nat, knownCode c = true ↔ 1 ≤ c ∧ c ≤ 0x32) ∧
  ∀ p : Port,
    let all : List Role := [.manager, .billing, .monitor, .craft]
    ∀ e ∈
      ([(.readStatus p, ⟨0x01, all, .nothing, 0⟩), (.readAttention p, ⟨0x02, all, .nothing, 0⟩),
        (.setAttentionMask p, ⟨0x03, all, .nothing, 1⟩), (.claim p, ⟨0x04, all, .nothing, 1⟩),
        (.claimQueued p, ⟨0x05, all, .nothing, 1⟩), (.release p, ⟨0x06, all, .nothing, 1⟩),
        (.withdraw p, ⟨0x07, all, .nothing, 1⟩), (.forceRelease p, ⟨0x08, [.manager], .nothing, 1⟩),
        (.readLocks p, ⟨0x09, all, .nothing, 0⟩), (.setClock p, ⟨0x0A, [.manager], .nothing, 4⟩),
        (.readClock p, ⟨0x0B, all, .nothing, 0⟩), (.provision p, ⟨0x0C, [.manager], .block, 8⟩),
        (.setTiers p, ⟨0x0D, [.manager], .block, 3⟩),
        (.suspend p, ⟨0x0E, [.manager, .billing], .block, 2⟩),
        (.resume p, ⟨0x0F, [.manager, .billing], .block, 2⟩),
        (.disconnect p, ⟨0x10, [.manager], .block, 2⟩), (.vacate p, ⟨0x11, [.manager], .block, 2⟩),
        (.addCharge p, ⟨0x12, [.manager, .billing], .block, 6⟩),
        (.reissue p, ⟨0x13, [.manager, .craft], .nothing, 1⟩),
        (.readSubscriber p, ⟨0x14, all, .nothing, 2⟩), (.editSlot p, ⟨0x15, [.manager], .lock 0, 7⟩),
        (.copyActiveToPending p, ⟨0x16, [.manager], .lock 0, 0⟩),
        (.scheduleActivation p, ⟨0x17, [.manager], .lock 0, 5⟩),
        (.cancelActivation p, ⟨0x18, [.manager], .lock 0, 0⟩),
        (.readLineup p, ⟨0x19, all, .nothing, 1⟩), (.readSlotState p, ⟨0x1A, all, .nothing, 0⟩),
        (.revertSlot p, ⟨0x1B, [.manager, .monitor], .nothing, 1⟩),
        (.setSource p, ⟨0x1C, [.manager, .monitor], .nothing, 6⟩),
        (.readSource p, ⟨0x1D, all, .nothing, 2⟩),
        (.setLeg p, ⟨0x1E, [.manager, .craft], .nothing, 9⟩),
        (.startLeg p, ⟨0x1F, [.manager, .craft], .nothing, 1⟩),
        (.stopLeg p, ⟨0x20, [.manager, .craft], .nothing, 1⟩),
        (.clearLegCounters p, ⟨0x21, [.manager, .craft], .nothing, 1⟩),
        (.readLeg p, ⟨0x22, all, .nothing, 1⟩), (.direct p, ⟨0x23, [.monitor, .craft], .nothing, 3⟩),
        (.readDirect p, ⟨0x24, all, .nothing, 1⟩), (.setUnit p, ⟨0x25, [.manager], .lock 2, 3⟩),
        (.setNode p, ⟨0x26, [.manager], .lock 2, 4⟩), (.readUnit p, ⟨0x27, all, .nothing, 1⟩),
        (.readNode p, ⟨0x28, all, .nothing, 1⟩),
        (.ackAlarm p, ⟨0x29, [.manager, .monitor, .craft], .nothing, 3⟩),
        (.readAlarms p, ⟨0x2A, all, .nothing, 2⟩),
        (.startClose p, ⟨0x2B, [.billing, .manager], .nothing, 0⟩),
        (.readCloseStatus p, ⟨0x2C, all, .nothing, 0⟩), (.setRate p, ⟨0x2D, [.billing], .lock 1, 5⟩),
        (.setCreditThreshold p, ⟨0x2E, [.billing], .nothing, 2⟩),
        (.readJournal p, ⟨0x2F, [.billing], .nothing, 4⟩),
        (.releaseJournal p, ⟨0x30, [.billing], .nothing, 4⟩),
        (.setJournalThreshold p, ⟨0x31, [.billing], .nothing, 2⟩),
        (.coldStart p, ⟨0x32, [.manager], .all, 0⟩)] : List (Instr × Row)),
      Machine.Instr.request e.1 = some (p, e.2)

/-- R167 and R159: the checks a request passes before its own, in order, each with its result, an empty body and
nothing else changed: POWER_FAIL, NOT_PERMITTED, LOCK_REQUIRED (or BAD_ARGUMENT where the drop that names the
lock is missing or above 2047), and BAD_ARGUMENT for a body of another length. The lock check is made against
the locks the port held when the request was taken, whoever holds them now. Requests are carried out in the
order in which they were taken, over all ports: while one that was taken before it waits, the row of a request
leaves the state as it is, which is the model's reading (log entries 6 and 33). -/
def Obligations.EarlyChecksRefuse : Prop :=
  ∀ (i : Instr) (p : Port) (row : Row) (tag : Byte) (body : List Byte) (s : State),
    Machine.Instr.request i = some (p, row) → body.length ≤ 240 →
    (s.inReset = false → s.power ≠ .normal → (s.port p).phase = .executing →
      (∃ number, FirstTaken s p ⟨requestFrame row.code tag body, true, s.heldWhenTaken p, number, none⟩) →
      exec i s = .next (s.answered p tag .powerFail [])) ∧
    ((∃ t u : Taken, ∃ q : Port,
        (s.port p).taken.head? = some t ∧ t.done = none ∧ u ∈ (s.port q).taken ∧ u.done = none ∧
          u.number < t.number) →
      exec i s = .next s) ∧
    (Asked s p row tag body →
      ((s.port p).role ∉ row.roles → exec i s = .next (s.answered p tag .notPermitted [])) ∧
      ((s.port p).role ∈ row.roles →
        (∀ n, row.need = .lock n → n ∉ s.heldWhenTaken p →
          exec i s = .next (s.answered p tag .lockRequired [])) ∧
        (row.need = .block → (body.length < 2 ∨ 2047 < beNat (body.take 2)) →
          exec i s = .next (s.answered p tag .badArgument [])) ∧
        (∀ d : Drop, row.need = .block → 2 ≤ body.length → beNat (body.take 2) = d.val →
          (∀ n : LockNo, n.val = 3 + d.val / 128 → n ∉ s.heldWhenTaken p) →
          exec i s = .next (s.answered p tag .lockRequired [])) ∧
        (∀ n, row.need = .all → n ∉ s.heldWhenTaken p →
          exec i s = .next (s.answered p tag .lockRequired [])) ∧
        (LockHeld (s.heldWhenTaken p) row.need body → body.length ≠ row.body →
          exec i s = .next (s.answered p tag .badArgument []))))

/-- R167: a taken frame that is too short, of another length than its body length byte gives, or with a wrong
CRC is answered BAD_FRAME; a frame that is good and has no code of the table is answered UNKNOWN_REQUEST; in
SHUTDOWN and SAFE both are answered POWER_FAIL. The tag is the second byte, or 0. That it waits for every request
taken before it, at whatever port, is the model's reading (log entries 6 and 33). -/
def Obligations.UnknownRequestIsAnswered : Prop :=
  ∀ (p : Port) (frame : List Byte) (held : List LockNo) (number : Nat) (s : State), s.inReset = false →
    (s.port p).phase = .executing → FirstTaken s p ⟨frame, true, held, number, none⟩ →
    let good := 3 ≤ frame.length ∧ frame.length = 5 + (frame.getD 2 0).toNat ∧ crcGood frame = true
    let code := (frame.getD 0 0).toNat
    (s.power = .normal → ¬good →
      exec (.unknownRequest p) s = .next (s.answered p (frame.getD 1 0) .badFrame [])) ∧
    (s.power = .normal → good → (code = 0 ∨ 0x33 ≤ code) →
      exec (.unknownRequest p) s = .next (s.answered p (frame.getD 1 0) .unknownRequest [])) ∧
    (s.power ≠ .normal → (¬good ∨ code = 0 ∨ 0x33 ≤ code) →
      exec (.unknownRequest p) s = .next (s.answered p (frame.getD 1 0) .powerFail []))

/-- R166: the reply of a request whose port was detached after the request was taken is lost. Carrying the
request out takes it off the port and leaves the port's state, reply holder and overrun flag as they were. Where
a detach or a minute boundary has found the work of a request done (log entry 33), carrying it out places the
reply made then at an attached port, loses it at one that was detached, and changes nothing else (R165). -/
def Obligations.ReplyOfDetachedPortIsLost : Prop :=
  (∀ (i : Instr) (p : Port) (row : Row) (tag : Byte) (body : List Byte) (held : List LockNo)
    (number : Nat) (done : Option Reply) (s : State),
    Machine.Instr.request i = some (p, row) → body.length ≤ 240 → s.inReset = false →
    FirstTaken s p ⟨requestFrame row.code tag body, false, held, number, done⟩ →
    ∃ t : State, exec i s = .next t ∧ (t.port p).taken = (s.port p).taken.tail ∧
      (t.port p).phase = (s.port p).phase ∧ (t.port p).reply = (s.port p).reply ∧
      (t.port p).overrun = (s.port p).overrun ∧ (t.port p).dataOut = (s.port p).dataOut) ∧
  ∀ (i : Instr) (p : Port) (t : Taken) (r : Reply) (s : State), s.inReset = false →
    (s.port p).taken.head? = some t → t.done = some r →
    (∃ (row : Row) (tag : Byte) (body : List Byte), Machine.Instr.request i = some (p, row) ∧
        body.length ≤ 240 ∧ t.frame = requestFrame row.code tag body) ∨
      (i = .unknownRequest p ∧ badRequest t.frame ≠ none) →
    (t.live = true → exec i s = .next (s.answered p r.tag r.result r.body)) ∧
      (t.live = false →
        exec i s = .next (s.setPort p { s.port p with taken := (s.port p).taken.tail }))

/-- R164, R165 and R159: what a complete request frame does in each state of its port, with data out at FF hex
during its selection. A request that is taken is kept with a number above that of every request that waits and
with the locks its port holds at that moment. With no work waiting to be done these are the locks of the table;
where one RELEASE or FORCE_RELEASE waits that will pass or free its lock, that lock counts as passed to its
first waiter, or free, and every other as the table has it. That what was taken earlier counts as made is the
model's reading (log entry 33). A selection with no whole byte, or whose first byte is 00 hex, is no request
frame. -/
def Obligations.RequestFrameActsByPortState : Prop :=
  ∀ (p : Port) (frame : List Byte) (s : State), s.inReset = false →
    let x := { s.port p with dataOut := List.replicate frame.length 0xFF }
    let complete := exec (.requestFrameComplete p frame) s
    (frame.getD 0 0 ≠ 0 →
      (∃ (held : List LockNo) (number : Nat),
        (∀ (q : Port) (t : Taken), t ∈ (s.port q).taken → t.number < number) ∧
        ((∀ (q : Port) (t : Taken), t ∈ (s.port q).taken → t.done ≠ none) → ∀ n, n ∈ held ↔ (s.lock n).holder = some p) ∧
        (∀ (q : Port) (t : Taken) (row : Row) (tag : Byte) (n : LockNo), s.power = .normal →
          (∀ r : Port, r ≠ q → (s.port r).taken = []) → (s.port q).taken = [t] → t.done = none →
          t.frame = requestFrame row.code tag [byte n.val] →
          (row = Row.release ∧ (s.lock n).holder = some q) ∨
            (row = Row.forceRelease ∧ (s.port q).role = .manager ∧ (s.lock n).holder ≠ none) →
          (n ∈ held ↔ (s.lock n).waiters.head? = some p) ∧
            ∀ m, m ≠ n → (m ∈ held ↔ (s.lock m).holder = some p)) ∧
        (x.phase = .idle →
          complete =
            .next
              (s.setPort p
                { x with
                  taken := x.taken ++ [⟨frame, true, held, number, none⟩], phase := .executing })) ∧
        (x.phase = .replyReady →
          complete =
            .next
              (s.setPort p
                { x with
                  taken := x.taken ++ [⟨frame, true, held, number, none⟩], phase := .executing
                  reply := none, overrun := true }))) ∧
      (x.phase = .executing →
        complete = .next (s.setPort p { x with overrun := true }) ∧
        exec (.requestFrameOverrun p frame) s = .next (s.setPort p { x with overrun := true })) ∧
      (x.phase = .detached → complete = .next (s.setPort p x))) ∧
    (frame.getD 0 0 = 0 →
      complete = .next s ∧ exec (.requestFrameOverrun p frame) s = .next s)

/-- R164, R165 and R170: what a fetch selection gives and leaves in each state of the port. The frame carries
the status byte of that moment; the fetch is made when its last CRC byte was clocked out. -/
def Obligations.FetchActsByPortState : Prop :=
  ∀ (p : Port) (n : Nat) (s : State), s.inReset = false →
    let x := s.port p
    let status : Byte :=
      (if x.overrun then 1 else 0) ||| (if x.flags &&& x.mask = 0 then 0 else 2)
    let frame := fun (tag code : Byte) (body : List Byte) =>
      withCrc ([tag, code, status] ++ beBytes 2 body.length ++ body)
    (x.phase = .detached →
      exec (.fetch p n) s = .next (s.setPort p { x with dataOut := List.replicate n 0xFF })) ∧
    (x.phase = .idle →
      exec (.fetch p n) s =
        .next
          (s.setPort p
            (if 7 ≤ n then
              { x with
                overrun := false
                dataOut := frame 0 19 [] ++ List.replicate (n - 7) 0xFF }
            else { x with dataOut := (frame 0 19 []).take n }))) ∧
    (∀ t, x.phase = .executing → x.taken.find? Taken.live = some t →
      exec (.fetch p n) s =
        .next
          (s.setPort p
            (if 7 ≤ n then
              { x with
                overrun := false
                dataOut := frame (t.frame.getD 1 0) 18 [] ++ List.replicate (n - 7) 0xFF }
            else { x with dataOut := (frame (t.frame.getD 1 0) 18 []).take n }))) ∧
    (∀ r : Reply, x.phase = .replyReady → x.reply = some r →
      let f := frame r.tag (BitVec.ofNat 8 r.result.code) r.body
      exec (.fetch p n) s =
        .next
          (s.setPort p
            (if 7 + r.body.length ≤ n then
              { x with
                phase := .idle
                reply := none
                overrun := false
                dataOut := f ++ List.replicate (n - (7 + r.body.length)) 0xFF }
            else { x with dataOut := f.take n })))

/-- R166, R160 and R79: a detach takes the port out of every waiter list, passes every lock it holds to the
first waiter that is left, empties the direct slots it owns, takes it out of the close context, and leaves the
port DETACHED with nothing in it; a deferred activation is made when the detach releases lock 0 in NORMAL. The
work of every request taken before the detach is done first, in the order of taking: what the command of the
request would do, but that its reply waits to be placed. So a CLAIM of a lock of the port that another port had
taken first is refused HELD, a CLAIM_QUEUED is appended and the detach passes to it, and a FORCE_RELEASE passes
the lock. That the order of taking holds of all requests and not of the lock requests alone is the model's
reading (log entry 33). An attach leaves the port IDLE and empty. -/
def Obligations.DetachAndAttach : Prop :=
  (∀ (p : Port) (s : State), s.inReset = false →
    let asIs := s
    let s := s.settled
    ((asIs.port p).phase ≠ .detached →
      ∃ t : State, exec (.detach p) asIs = .next t ∧
        t.port p =
          { s.port p with
            phase := .detached
            taken := (s.port p).taken.map fun r => { r with live := false }
            reply := none
            overrun := false
            flags := 0
            mask := 0x7F } ∧
        (∀ q : Port, q ≠ p → { s.port q with flags := (t.port q).flags } = t.port q) ∧
        (∀ n : LockNo,
          let left := (s.lock n).waiters.filter (· ≠ p)
          t.lock n =
            if (s.lock n).holder = some p then { holder := left.head?, waiters := left.tail }
            else { holder := (s.lock n).holder, waiters := left }) ∧
        (∀ l : Leg, (t.leg l).direct = (s.leg l).direct.disown p) ∧
        t.table.close =
          { s.table.close with
            requester :=
              if s.table.close.requester = some p then none else s.table.close.requester } ∧
        (∀ m, (s.lock 0).holder = some p → s.power = .normal → s.table.activation = .deferred m →
          t.table.active = s.table.pendingLineup ∧
            t.table.activation = .sweeping 0 s.composition) ∧
        ((s.lock 0).holder ≠ some p ∨ s.power ≠ .normal ∨ s.table.activation.isDeferred = false →
          t.table.active = s.table.active ∧ t.table.activation = s.table.activation) ∧
        t.table.subs = s.table.subs ∧ t.table.units = s.table.units ∧ t.clock = s.clock) ∧
    ((asIs.port p).phase = .detached →
      exec (.detach p) asIs = .next asIs ∧
      exec (.attach p) asIs =
        .next
          (asIs.setPort p
            { asIs.port p with
              phase := .idle, reply := none, overrun := false, flags := 0, mask := 0x7F }))) ∧
  (∀ s : State, (∀ (q : Port) (t : Taken), t ∈ (s.port q).taken → t.done ≠ none) → s.settled = s) ∧
  (∀ (i : Instr) (q : Port) (row : Row) (tag : Byte) (body : List Byte) (live : Bool) (held : List LockNo)
    (number : Nat) (s : State),
    Machine.Instr.request i = some (q, row) → body.length ≤ 240 → s.inReset = false →
    let request := fun done : Option Reply => Taken.mk (requestFrame row.code tag body) live held number done
    FirstTaken s q (request none) →
    (∀ (r : Port) (u : Taken), r ≠ q → u ∈ (s.port r).taken → u.done = none → number < u.number) →
    ∃ (r : Reply) (t : State), exec i s = .next t ∧ (live = true → (t.port q).reply = some r) ∧
      s.settled =
        (t.setPort q
          { t.port q with
            taken := request (some r) :: (t.port q).taken
            phase := (s.port q).phase
            reply := (s.port q).reply }).settled) ∧
  ∀ (p q : Port) (n : LockNo) (tag : Byte) (s : State), p ≠ q → (s.port p).phase ≠ .detached →
    (s.lock n).holder = some p → (s.port q).taken.tail = [] →
    (∀ r : Port, r ≠ q → (s.port r).taken = []) →
    let left := (s.lock n).waiters.filter (· ≠ p)
    let lone : Byte := BitVec.ofNat 8 p.val
    let after := fun (row : Row) (kept : Reply) (ports : List Port) =>
      Serving s q row tag [byte n.val] →
      ∃ t : State, exec (.detach p) s = .next t ∧
        (t.port q).taken.map Taken.done = [some kept] ∧
        t.lock n = { holder := ports.head?, waiters := ports.tail } ∧
        (ports = [q] → (t.port q).flags &&& 0x02 = 0x02)
    after Row.claim ⟨tag, .held, [lone]⟩ left ∧
    (q ∉ (s.lock n).waiters →
      after Row.claimQueued ⟨tag, .queued, [BitVec.ofNat 8 ((s.lock n).waiters.length + 1)]⟩ (left ++ [q])) ∧
    after Row.forceRelease
      ⟨tag, .ok,
        [lone,
          match (s.lock n).waiters with
          | [] => 0xFF
          | r :: _ => BitVec.ofNat 8 r.val]⟩ left

/-- R168: READ_ATTENTION returns the flags and the mask and clears the flags; SET_ATTENTION_MASK stores the mask
and leaves the flags, and the attention output follows the new mask at once. That the flags are those of the
moment the request is carried out, where R168 says taken, is the model's choice (log entry 34), and that a mask
of 128 or above is refused is its reading (log entry 26). -/
def Obligations.AttentionReadAndMask : Prop :=
  (∀ (p : Port) (tag : Byte) (s : State), Serving s p Row.readAttention tag [] →
    exec (.readAttention p) s =
      .next
        ((s.setPort p { s.port p with flags := 0 }).answered p tag .ok
          [(s.port p).flags, (s.port p).mask])) ∧
  ∀ (p : Port) (tag b : Byte) (s : State), Serving s p Row.setAttentionMask tag [b] →
    (b.toNat < 128 →
      ∃ t : State, exec (.setAttentionMask p) s = .next t ∧
        t = (s.setPort p { s.port p with mask := b }).answered p tag .ok [b] ∧
        t.attentionOutput p = decide ((s.port p).flags &&& b ≠ 0)) ∧
    (128 ≤ b.toNat → exec (.setAttentionMask p) s = .next (s.answered p tag .badArgument []))

/-- READ_STATUS is answered with one picture of the controller, its fields in the order of R169, and READ_LOCKS
with every lock's holder and waiters and the requesting port's number (R161). Neither changes anything else, and
neither needs a role or a lock. That the picture is that of the moment the request is carried out, where R169
says taken, is the model's choice (log entry 34), and so is the byte of the overflow flag, 01 hex for set (log
entry 9). -/
def Obligations.StatusAndLocksAreRead : Prop :=
  (∀ (p : Port) (tag : Byte) (s : State), Asked s p Row.readStatus tag [] →
    exec (.readStatus p) s =
      .next
        (s.answered p tag .ok
          ([byte s.startKind.code, if s.clock.minute.isSome then 1 else 0] ++
            optBytes 4 s.clock.minute ++ beBytes 2 s.subscriberCount ++
            beBytes 4 s.table.journal.written.toNat ++ beBytes 4 s.table.journal.released.toNat ++
            beBytes 2 (s.table.journal.written - s.table.journal.released).toNat ++
            beBytes 2 (4096 - (s.table.journal.written - s.table.journal.released).toNat) ++
            beBytes 2 s.table.close.reserved ++ beBytes 2 s.table.journal.threshold ++
            yesNo s.spaceLow ++
            (match s.table.activation with
             | .idle => [0] ++ optBytes 4 none ++ beBytes 2 0
             | .scheduled m => [1] ++ optBytes 4 (some m) ++ beBytes 2 0
             | .deferred m => [2] ++ optBytes 4 (some m) ++ beBytes 2 0
             | .sweeping d _ => [3] ++ optBytes 4 none ++ beBytes 2 d.val) ++
            yesNo s.table.close.walking ++ beBytes 2 s.table.close.position.val ++
            beBytes 2 s.table.cycleNumber.toNat ++ [byte s.alarms.entries.length] ++
            beBytes 2 s.alarms.change.toNat ++ beBytes 2 s.alarms.unlisted ++
            yesNo s.alarms.overflow ++
            [byte (s.port 0).role.code, byte (s.port 0).phase.code, byte (s.port 1).role.code,
              byte (s.port 1).phase.code, byte (s.port 2).role.code, byte (s.port 2).phase.code,
              byte (s.port 3).role.code, byte (s.port 3).phase.code, byte p.val]))) ∧
  ∀ (p : Port) (tag : Byte) (s : State), Asked s p Row.readLocks tag [] →
    exec (.readLocks p) s =
      .next
        (s.answered p tag .ok
          (((List.finRange 19).flatMap fun n =>
              [match (s.lock n).holder with
               | some h => byte h.val
               | none => 0xFF] ++
                byte (s.lock n).waiters.length :: (s.lock n).waiters.map fun q => byte q.val) ++
            [byte p.val]))

/-! ## The lock table -/

/-- R155: CLAIM and CLAIM_QUEUED on a lock that is free, held by the requester, or held by another port, with
the requester waiting for it or not. -/
def Obligations.ClaimsActByTheTable : Prop :=
  ∀ (p : Port) (tag : Byte) (n : LockNo) (s : State),
    let x := s.lock n
    let granted := (s.setLock n { x with holder := some p }).answered p tag .ok [byte n.val, byte p.val]
    (Asked s p Row.claim tag [byte n.val] →
      (x.holder = none → exec (.claim p) s = .next granted) ∧
      (x.holder = some p →
        exec (.claim p) s = .next (s.answered p tag .ok [byte n.val, byte p.val])) ∧
      ∀ h, x.holder = some h → h ≠ p →
        exec (.claim p) s = .next (s.answered p tag .held [byte h.val])) ∧
    (Asked s p Row.claimQueued tag [byte n.val] →
      (x.holder = none → exec (.claimQueued p) s = .next granted) ∧
      (x.holder = some p →
        exec (.claimQueued p) s = .next (s.answered p tag .ok [byte n.val, byte p.val])) ∧
      ∀ h, x.holder = some h → h ≠ p →
        (p ∉ x.waiters →
          exec (.claimQueued p) s =
            .next
              ((s.setLock n { x with waiters := x.waiters ++ [p] }).answered p tag .queued
                [byte (x.waiters.length + 1)])) ∧
        (p ∈ x.waiters →
          exec (.claimQueued p) s =
            .next (s.answered p tag .queued [byte (x.waiters.idxOf p + 1)])))

/-- R156 and R158: a RELEASE by a port that is not the holder is refused NOT_HOLDER, a FORCE_RELEASE of a free
lock WRONG_STATE. Otherwise, unless lock 0 is released with an activation DEFERRED, the lock becomes free, or
its first waiter becomes holder with LOCK attention and the others move up; the reply tells the holder after
the pass. A lock number above 18 is refused BAD_ARGUMENT by every lock request (R154). -/
def Obligations.ReleasePassesTheLock : Prop :=
  (∀ (p : Port) (tag b : Byte) (s : State), 18 < b.toNat →
    ∀ e ∈
      ([(.claim p, Row.claim), (.claimQueued p, Row.claimQueued), (.release p, Row.release),
        (.withdraw p, Row.withdraw), (.forceRelease p, Row.forceRelease)] : List (Instr × Row)),
      Serving s p e.2 tag [b] → exec e.1 s = .next (s.answered p tag .badArgument [])) ∧
  ∀ (p : Port) (tag : Byte) (n : LockNo) (s : State),
    let x := s.lock n
    let still := n ≠ 0 ∨ s.table.activation.isDeferred = false ∨ s.power ≠ .normal
    let free := s.setLock n { holder := none, waiters := [] }
    let passed := fun (q : Port) (rest : List Port) =>
      (s.setLock n { holder := some q, waiters := rest }).setPort q
        { s.port q with flags := (s.port q).flags ||| 0x02 }
    (Serving s p Row.release tag [byte n.val] →
      (x.holder ≠ some p → exec (.release p) s = .next (s.answered p tag .notHolder [])) ∧
      (x.holder = some p → still →
        (x.waiters = [] → exec (.release p) s = .next (free.answered p tag .ok [0xFF])) ∧
        ∀ q rest, x.waiters = q :: rest → (s.port q).phase ≠ .detached →
          exec (.release p) s = .next ((passed q rest).answered p tag .ok [byte q.val]))) ∧
    (Serving s p Row.forceRelease tag [byte n.val] →
      (x.holder = none → exec (.forceRelease p) s = .next (s.answered p tag .wrongState [])) ∧
      ∀ h, x.holder = some h → still →
        (x.waiters = [] →
          exec (.forceRelease p) s = .next (free.answered p tag .ok [byte h.val, 0xFF])) ∧
        ∀ q rest, x.waiters = q :: rest → (s.port q).phase ≠ .detached →
          exec (.forceRelease p) s =
            .next ((passed q rest).answered p tag .ok [byte h.val, byte q.val]))

/-- R29 and R156, with R24, R30, R31, R45 to R47 and R49 for the swap: a RELEASE or FORCE_RELEASE of lock 0 with
an activation DEFERRED makes the swap before the lock passes. The swap derives every slot by the cases of R46,
and raises or clears the slot alarms, SOURCE_LOSS and MIXED_GROUP; an alarm that finds no room leaves the
overflow flag set (R112). -/
def Obligations.ReleaseOfLockZeroMakesTheDeferredSwap : Prop :=
  ∀ (p : Port) (tag : Byte) (m : Nat) (s : State), s.table.activation = .deferred m →
    (Serving s p Row.release tag [0] → (s.lock 0).holder = some p →
      ∃ t : State, Swapped s t ∧
        exec (.release p) s =
          .next
            ((t.handOver 0).answered p tag .ok
              [match (s.lock 0).waiters with
               | q :: _ => byte q.val
               | [] => 0xFF])) ∧
    ∀ h, Serving s p Row.forceRelease tag [0] → (s.lock 0).holder = some h →
      ∃ t : State, Swapped s t ∧
        exec (.forceRelease p) s =
          .next
            ((t.handOver 0).answered p tag .ok
              [byte h.val,
               match (s.lock 0).waiters with
               | q :: _ => byte q.val
               | [] => 0xFF])

/-- R157: WITHDRAW takes the requesting port out of the lock's waiter list, and is refused WRONG_STATE for a
port that does not stand in it. -/
def Obligations.WithdrawLeavesTheWaiterList : Prop :=
  ∀ (p : Port) (tag : Byte) (n : LockNo) (s : State), (s.lock n).waiters.Nodup →
    Asked s p Row.withdraw tag [byte n.val] →
    (p ∈ (s.lock n).waiters →
      exec (.withdraw p) s =
        .next
          ((s.setLock n { s.lock n with waiters := (s.lock n).waiters.erase p }).answered p tag .ok
            [])) ∧
    (p ∉ (s.lock n).waiters → exec (.withdraw p) s = .next (s.answered p tag .wrongState []))

/-! ## The service clock -/

/-- R178, R95, R122 and R130, with R28, R29, R37 and R140: a setting from NOT_SET is refused CLOCK_BACKWARD
below the last-known minute. A setting at or above it starts the clock there, ends CLOCK_NOT_SET, completes the
units' absent minutes, gives every segment and the cycle a start, and replies with the state, the minute and the
hold-back count. A scheduled activation whose minute has come arrives after that: the swap is made with lock 0
free, and the activation is DEFERRED while lock 0 is held. At last CYCLE_OVERDUE is raised where the minute is
past the cycle start plus 89,280. That the minute of the reply is four bytes without a presence byte is the
model's choice (log entry 9). -/
def Obligations.FirstClockSetting : Prop :=
  ∀ (p : Port) (tag : Byte) (m : Nat) (s : State), m < 4294967296 →
    Serving s p Row.setClock tag (beBytes 4 m) → s.clock.minute = none →
    (m < s.table.lastKnown → exec (.setClock p) s = .next (s.answered p tag .clockBackward [])) ∧
    (s.table.lastKnown ≤ m →
      ∃ t : State, exec (.setClock p) s = .next (t.answered p tag .ok ([1] ++ beBytes 4 m ++ [0])) ∧
        t.clock = { minute := some m, seconds := 0, tenths := 0, holdBack := 0 } ∧
        t.table.lastKnown = m ∧ t.table.cycleStart = some (s.table.cycleStart.getD m) ∧
        AlarmEnded t .clockNotSet 0 ∧
        (∀ u : UnitNo,
          let x := s.unit u
          t.unit u =
            if x.feeding = none then x
            else
              { x with
                firstMiss := if 1 ≤ x.misses ∧ x.firstMiss = none then some m else x.firstMiss
                outageBegan :=
                  if x.liveness = .dead ∧ x.outageBegan = none then some m else x.outageBegan }) ∧
        (∀ d : Drop,
          t.sub d =
            { s.sub d with
              seg := { (s.sub d).seg with start := some ((s.sub d).seg.start.getD m) } }) ∧
        ((∀ k, s.table.activation = .scheduled k → m < k) →
          t.table.activation = s.table.activation ∧ t.table.active = s.table.active) ∧
        (∀ k, s.table.activation = .scheduled k → k ≤ m →
          ((s.lock 0).holder = none →
            Swapped
              { s with
                clock := t.clock
                table :=
                  { s.table with
                    lastKnown := m, cycleStart := t.table.cycleStart, units := t.table.units
                    subs := t.table.subs } } t) ∧
          ((s.lock 0).holder ≠ none →
            t.table.activation = .deferred k ∧ t.table.active = s.table.active ∧
              t.composition = s.composition ∧ t.slots = s.slots)) ∧
        (∀ start, s.table.cycleStart = some start → start + 89280 < m →
          AlarmListed t .cycleOverdue 0 s.table.cycleNumber) ∧
        SamePorts s t ∧ t.locks = s.locks ∧ t.legs = s.legs)

/-- R178 and R140: a setting of a RUNNING clock jumps forward, holds the count back by 1 to 60, or is refused
CLOCK_BACKWARD; a jump past the cycle start plus 89,280 raises CYCLE_OVERDUE. That the minute of the reply is four
bytes without a presence byte is the model's choice (log entry 9). -/
def Obligations.RunningClockSetting : Prop :=
  ∀ (p : Port) (tag : Byte) (m now : Nat) (s : State), m < 4294967296 →
    Serving s p Row.setClock tag (beBytes 4 m) → s.clock.minute = some now →
    (now ≤ m →
      ∃ t : State, exec (.setClock p) s = .next (t.answered p tag .ok ([1] ++ beBytes 4 m ++ [0])) ∧
        t.clock = { minute := some m, seconds := 0, tenths := 0, holdBack := 0 } ∧
        t.table.lastKnown = m ∧ t.table.subs = s.table.subs ∧ t.table.units = s.table.units ∧
        t.table.cycleStart = s.table.cycleStart ∧ SamePorts s t ∧ t.locks = s.locks ∧
        t.legs = s.legs ∧
        (∀ start, s.table.cycleStart = some start → start + 89280 < m →
          AlarmListed t .cycleOverdue 0 s.table.cycleNumber) ∧
        ((∀ k, s.table.activation = .scheduled k → m < k) →
          (∀ c, s.table.cycleStart = some c → m ≤ c + 89280) →
          t =
            { s with
              clock := { minute := some m, seconds := 0, tenths := 0, holdBack := 0 }
              table := { s.table with lastKnown := m } })) ∧
    (m < now → now ≤ m + 60 →
      exec (.setClock p) s =
        .next
          ({ s with
              clock := { s.clock with holdBack := now - m }
              table := { s.table with lastKnown := now } }.answered p tag .ok
            ([1] ++ beBytes 4 now ++ [byte (now - m)]))) ∧
    (m + 60 < now → exec (.setClock p) s = .next (s.answered p tag .clockBackward []))

/-- R177, R178 and R140: a minute boundary lowers a hold-back count above 0, and otherwise raises the minute count
and the last-known minute, but not past 4,294,967,295; it raises CYCLE_OVERDUE when the count passes the cycle
start plus 89,280. A clock that is NOT_SET, and every clock from SHUTDOWN on, takes none. The seconds pass 59
only from 59, so the boundary of a minute that a forward jump began anew does not happen before them; that a
command sent earlier changes nothing is the model's choice (log entries 5 and 6). The work of every request taken
before the boundary is done first, and the boundary acts on the state it leaves: after a forward jump that was
taken first the boundary does not happen in that minute, and a held-back setting that was taken first loses one of
its hold-back (R178). That this holds of all requests taken before is the model's reading (log entry 33). -/
def Obligations.MinuteBoundaryTurnsTheCount : Prop :=
  (∀ asIs : State, asIs.inReset = false →
    (asIs.clock.minute = none ∨ asIs.power ≠ .normal ∨ asIs.clock.seconds < 59 →
      exec .minuteBoundary asIs = .next asIs) ∧
    (asIs.clock.minute ≠ none → asIs.power = .normal → 59 ≤ asIs.clock.seconds →
      let s := asIs.settled
      (s.clock.minute = none ∨ s.power ≠ .normal ∨ s.clock.seconds < 59 →
        exec .minuteBoundary asIs = .next s) ∧
      ∀ m, s.clock.minute = some m → s.power = .normal → 59 ≤ s.clock.seconds →
        (0 < s.clock.holdBack →
          exec .minuteBoundary asIs =
            .next
              { s with
                clock :=
                  { minute := some m, seconds := 0, tenths := 0, holdBack := s.clock.holdBack - 1 } }) ∧
        (s.clock.holdBack = 0 → m = 4294967295 →
          exec .minuteBoundary asIs =
            .next { s with clock := { minute := some m, seconds := 0, tenths := 0, holdBack := 0 } }) ∧
        (s.clock.holdBack = 0 → m < 4294967295 →
          (∀ k, s.table.activation = .scheduled k → m + 1 < k) →
          let risen : State :=
            { s with
              clock := { minute := some (m + 1), seconds := 0, tenths := 0, holdBack := 0 }
              table := { s.table with lastKnown := m + 1 } }
          ((∀ c, s.table.cycleStart = some c → m ≠ c + 89280) →
            exec .minuteBoundary asIs = .next risen) ∧
          ∀ c, s.table.cycleStart = some c → m = c + 89280 →
            exec .minuteBoundary asIs = .next (risen.raise .cycleOverdue 0 s.table.cycleNumber)))) ∧
  ∀ (p : Port) (tag : Byte) (m now : Nat) (s : State), m < 4294967296 →
    Serving s p Row.setClock tag (beBytes 4 m) → (s.port p).taken.tail = [] →
    (∀ q : Port, q ≠ p → (s.port q).taken = []) → s.clock.minute = some now → 59 ≤ s.clock.seconds →
    (now ≤ m →
      ∃ t : State, exec .minuteBoundary s = .next t ∧
        t.clock = { minute := some m, seconds := 0, tenths := 0, holdBack := 0 } ∧
        (t.port p).taken.map Taken.done = [some ⟨tag, .ok, [1] ++ beBytes 4 m ++ [0]⟩]) ∧
    (m < now → now ≤ m + 60 →
      ∃ t : State, exec .minuteBoundary s = .next t ∧
        t.clock = { minute := some now, seconds := 0, tenths := 0, holdBack := now - m - 1 } ∧
        (t.port p).taken.map Taken.done = [some ⟨tag, .ok, [1] ++ beBytes 4 now ++ [byte (now - m)]⟩])

/-- R28, with R24, R30, R31, R45 to R47 and R49 for the swap, and R140: when the count reaches the scheduled
minute, at a minute boundary or a forward jump, the swap is made if lock 0 is free, and otherwise the activation
is DEFERRED with its minute and no table changes; a jump past the cycle start plus 89,280 raises CYCLE_OVERDUE
as well. The lock is free or held as the requests taken before the arrival leave it: a CLAIM of lock 0 that was
taken before the boundary holds it (R155), and the activation is DEFERRED; a RELEASE that was taken before it
leaves it free where no port waits (R156), and the swap is made. That a boundary finds the work of all requests
taken before it done is the model's reading (log entry 33); the bytes of the SET_CLOCK reply follow log entry 9,
and the seconds of 59 or more before a boundary log entries 5 and 6. -/
def Obligations.ScheduledMinuteArrives : Prop :=
  (∀ (m k : Nat) (asIs : State),
    let s := asIs.settled
    asIs.inReset = false → asIs.power = .normal → asIs.clock.minute ≠ none → 59 ≤ asIs.clock.seconds →
    s.clock.minute = some m → s.power = .normal → 59 ≤ s.clock.seconds → s.clock.holdBack = 0 →
    m < 4294967295 → s.table.activation = .scheduled k → k ≤ m + 1 →
    ((s.lock 0).holder = none →
      ∃ t : State, exec .minuteBoundary asIs = .next t ∧
        Swapped
          { s with
            clock := { minute := some (m + 1), seconds := 0, tenths := 0, holdBack := 0 }
            table := { s.table with lastKnown := m + 1 } } t) ∧
    ((s.lock 0).holder ≠ none →
      ∃ t : State, exec .minuteBoundary asIs = .next t ∧ t.table.activation = .deferred k ∧
        t.table.active = s.table.active ∧ t.composition = s.composition ∧ t.slots = s.slots ∧
        t.clock.minute = some (m + 1))) ∧
  (∀ (p : Port) (tag : Byte) (m k : Nat) (s : State), s.clock.minute = some m → 59 ≤ s.clock.seconds →
    s.clock.holdBack = 0 → m < 4294967295 → s.table.activation = .scheduled k → k ≤ m + 1 →
    (s.port p).taken.tail = [] → (∀ q : Port, q ≠ p → (s.port q).taken = []) →
    (Serving s p Row.claim tag [0] → (s.lock 0).holder = none →
      ∃ t : State, exec .minuteBoundary s = .next t ∧ (t.lock 0).holder = some p ∧
        t.table.activation = .deferred k ∧ t.table.active = s.table.active ∧
        t.clock.minute = some (m + 1) ∧
        ∃ r : Reply, (t.port p).taken.map Taken.done = [some r] ∧ r.result = .ok) ∧
    (Serving s p Row.release tag [0] → (s.lock 0).holder = some p → (s.lock 0).waiters = [] →
      ∃ t : State, exec .minuteBoundary s = .next t ∧ (t.lock 0).holder = none ∧
        t.table.active = s.table.pendingLineup ∧ t.table.activation = .sweeping 0 s.composition ∧
        t.clock.minute = some (m + 1))) ∧
  ∀ (m k : Nat) (s : State), s.clock.minute = some m → s.table.activation = .scheduled k →
    ∀ (p : Port) (tag : Byte) (n : Nat), n < 4294967296 → m ≤ n → k ≤ n →
      Serving s p Row.setClock tag (beBytes 4 n) →
      let overdue := fun t : State =>
        ∀ start, s.table.cycleStart = some start → start + 89280 < n →
          AlarmListed t .cycleOverdue 0 s.table.cycleNumber
      ((s.lock 0).holder = none →
        ∃ t : State, exec (.setClock p) s = .next (t.answered p tag .ok ([1] ++ beBytes 4 n ++ [0])) ∧
          Swapped
            { s with
              clock := { minute := some n, seconds := 0, tenths := 0, holdBack := 0 }
              table := { s.table with lastKnown := n } } t ∧
          overdue t) ∧
      ((s.lock 0).holder ≠ none →
        ∃ t : State, exec (.setClock p) s = .next (t.answered p tag .ok ([1] ++ beBytes 4 n ++ [0])) ∧
          t.table.activation = .deferred k ∧ t.table.active = s.table.active ∧
          t.composition = s.composition ∧ t.slots = s.slots ∧ overdue t)

/-- R177 and R143: READ_CLOCK and READ_CLOSE_STATUS return what the clock and the Accounting Unit hold, in the
order of their rules, and change nothing else. That the seconds byte of READ_CLOCK is 0 while the clock is
NOT_SET, where R177 gives it no seconds, and that its last-known minute is sent as 4 bytes without a presence
byte, is the model's choice (log entry 9), and that a read shows the moment it is carried out is too (log entry
34). -/
def Obligations.ClockAndCloseStatusAreRead : Prop :=
  (∀ (p : Port) (tag : Byte) (s : State), Asked s p Row.readClock tag [] →
    exec (.readClock p) s =
      .next
        (s.answered p tag .ok
          ([if s.clock.minute.isSome then 1 else 0] ++ optBytes 4 s.clock.minute ++
            [byte s.clock.seconds, byte s.clock.holdBack] ++ beBytes 4 s.table.lastKnown))) ∧
  ∀ (p : Port) (tag : Byte) (s : State), Asked s p Row.readCloseStatus tag [] →
    let c := s.table.close
    exec (.readCloseStatus p) s =
      .next
        (s.answered p tag .ok
          (beBytes 2 s.table.cycleNumber.toNat ++ optBytes 4 s.table.cycleStart ++ yesNo c.walking ++
            beBytes 2 c.closingCycle.toNat ++ optBytes 4 c.closingStart ++ optBytes 4 c.stamp ++
            beBytes 2 c.reserved ++ beBytes 2 c.position.val ++
            [match c.requester with
             | some q => byte q.val
             | none => 0xFF] ++
            beBytes 2 s.subscriberCount ++
            ((List.finRange 8).flatMap fun t => beBytes 4 (look s.table.currentRates t).toNat) ++
            ((List.finRange 8).flatMap fun t => beBytes 4 (look s.table.nextRates t).toNat) ++
            beBytes 2 s.table.creditThreshold ++
            yesNo
              (match s.clock.minute, s.table.cycleStart with
               | some m, some start => decide (start + 89280 < m)
               | _, _ => false)))

/-! ## Line-up, activation and sweep -/

/-- R20 and R21: EDIT_SLOT writes one entry of the pending line-up, COPY_ACTIVE_TO_PENDING all of them; the
arguments EDIT_SLOT refuses, and what a port of another role, or one that did not hold lock 0 when its request
was taken (R159), is answered. -/
def Obligations.PendingLineUpIsEdited : Prop :=
  (∀ (p : Port) (tag : Byte) (s : State),
    ∀ e ∈
      ([(.editSlot p, Row.editSlot), (.copyActiveToPending p, Row.copyActiveToPending)] :
        List (Instr × Row)),
    ∀ body : List Byte, body.length = e.2.body → Asked s p e.2 tag body →
      ((s.port p).role ≠ .manager → exec e.1 s = .next (s.answered p tag .notPermitted [])) ∧
      ((s.port p).role = .manager → 0 ∉ s.heldWhenTaken p →
        exec e.1 s = .next (s.answered p tag .lockRequired []))) ∧
  (∀ (p : Port) (tag : Byte) (s : State), Serving s p Row.copyActiveToPending tag [] →
    exec (.copyActiveToPending p) s =
      .next
        ({ s with table := { s.table with pendingLineup := s.table.active } }.answered p tag .ok
          [])) ∧
  ∀ (p : Port) (tag slot assigned primary fallback tier revert muted : Byte) (s : State),
    Serving s p Row.editSlot tag [slot, assigned, primary, fallback, tier, revert, muted] →
    ((47 < slot.toNat ∨
        (assigned ≠ 0 ∧
          (63 < primary.toNat ∨ (fallback ≠ 0xFF ∧ 63 < fallback.toNat) ∨ fallback = primary ∨
            7 < tier.toNat))) →
      exec (.editSlot p) s = .next (s.answered p tag .badArgument [])) ∧
    (∀ i : Slot, slot = byte i.val →
      (assigned = 0 →
        exec (.editSlot p) s =
          .next
            ({ s with
                table := { s.table with pendingLineup := put s.table.pendingLineup i none } }.answered
              p tag .ok [])) ∧
      ∀ g : Program, assigned ≠ 0 → primary = byte g.primary.val →
        fallback =
          (match g.fallback with
           | some k => byte k.val
           | none => 0xFF) →
        g.fallback ≠ some g.primary → tier = byte g.tier.val →
        g.autoRevert = decide (revert ≠ 0) → g.muted = decide (muted ≠ 0) →
        exec (.editSlot p) s =
          .next
            ({ s with
                table :=
                  { s.table with pendingLineup := put s.table.pendingLineup i (some g) } }.answered
              p tag .ok []))

/-- R26 and R27, with R24, R30, R31, R45 to R47 and R49 for the swap: what SCHEDULE_ACTIVATION with NOW or a
minute and CANCEL_ACTIVATION do in each activation context. That a presence byte of 00 means NOW whatever its
value bytes is the model's reading (log entry 26). -/
def Obligations.ActivationIsScheduledAndCancelled : Prop :=
  (∀ (p : Port) (tag : Byte) (body : List Byte) (s : State),
    Serving s p Row.scheduleActivation tag body → (body.getD 0 0 = 0 ∨ body.getD 0 0 = 1) →
    let minute := beNat (body.drop 1)
    let sweeping := s.table.activation.code = 3
    (sweeping → exec (.scheduleActivation p) s = .next (s.answered p tag .busy [])) ∧
    (¬sweeping → body.getD 0 0 = 1 → s.clock.minute = none →
      exec (.scheduleActivation p) s = .next (s.answered p tag .clockNotSet [])) ∧
    (¬sweeping →
      (body.getD 0 0 = 0 ∨ ∃ now, s.clock.minute = some now ∧ minute ≤ now) →
      ∃ t : State, Swapped s t ∧ t.locks = s.locks ∧
        exec (.scheduleActivation p) s = .next (t.answered p tag .started [])) ∧
    (¬sweeping → body.getD 0 0 = 1 → (∃ now, s.clock.minute = some now ∧ now < minute) →
      exec (.scheduleActivation p) s =
        .next
          ({ s with table := { s.table with activation := .scheduled minute } }.answered p tag .ok
            []))) ∧
  ∀ (p : Port) (tag : Byte) (s : State), Serving s p Row.cancelActivation tag [] →
    (s.table.activation.code = 0 →
      exec (.cancelActivation p) s = .next (s.answered p tag .wrongState [])) ∧
    (s.table.activation.code = 3 →
      exec (.cancelActivation p) s = .next (s.answered p tag .busy [])) ∧
    (s.table.activation.code = 1 ∨ s.table.activation.code = 2 →
      exec (.cancelActivation p) s =
        .next ({ s with table := { s.table with activation := .idle } }.answered p tag .ok []))

/-- R32, R33 and R35, with R135: the sweep's visit gives the drop at its position the delivered tier set as it
stands, with the segment folded at the current minute where it differs, its minutes added and saturated as R121
and R123 say and its new kind that of R120; the fold of a lagging drop makes the catch-up close first, with its
EARLY CYCLE record for an ACTIVE or SUSPENDED one. Where the activation changed the desired image the drop's
unit loses its hold, its order attempts are 0 and ORDER_FAILED ends, and otherwise its entry stands; the unit
joins the tail of its leg's order queue where the conditions of R15 hold, keeps its place there where it stood in
it, and the queue stays as it was where they fail; no other unit and no other leg changes. The visit advances;
after drop 2047 the context is IDLE and every attached MANAGER port has ACTIVATION attention. From SHUTDOWN on it
makes no visit (R179). -/
def Obligations.SweepVisitBringsOneDropIntoLine : Prop :=
  ∀ (d : Drop) (previous : Composition) (s : State), s.inReset = false →
    s.table.activation = .sweeping d previous →
    (s.power ≠ .normal → exec .sweepVisit s = .next s) ∧
    (s.power = .normal →
      ∃ t : State, exec .sweepVisit s = .next t ∧
        (t.sub d).seg.tiers = s.deliveredNow d ∧
        (s.deliveredNow d ≠ (s.sub d).seg.tiers → (t.sub d).seg.start = s.clock.minute) ∧
        (s.deliveredNow d = (s.sub d).seg.tiers → t.sub d = s.sub d) ∧
        (let kind : SegKind :=
           if s.deliveredNow d = 0 then .none
           else if (s.unit (Drop.unit d)).liveness = .dead then .outage
           else .service
         (s.deliveredNow d ≠ (s.sub d).seg.tiers → (t.sub d).seg.kind = kind) ∧
         (∀ now, s.deliveredNow d ≠ (s.sub d).seg.tiers → s.clock.minute = some now →
            (s.sub d).cycle = s.table.cycleNumber → Folded (s.sub d) (t.sub d) now) ∧
         (s.deliveredNow d ≠ (s.sub d).seg.tiers → s.clock.minute = none →
            t.sub d =
              { s.sub d with
                seg := { start := none, kind := kind, tiers := s.deliveredNow d } })) ∧
        (∀ now stamp, s.deliveredNow d ≠ (s.sub d).seg.tiers → s.clock.minute = some now →
          (s.sub d).cycle ≠ s.table.cycleNumber → s.table.close.stamp = some stamp →
          CountersInRange (s.sub d) →
          (t.sub d).cycle = s.table.cycleNumber ∧
            ((s.sub d).state = .active ∨ (s.sub d).state = .suspended →
              Folded ((s.sub d).caughtUp stamp) (t.sub d) now ∧ (t.sub d).charges = [] ∧
                t.table.journal.written = s.table.journal.written + 1 ∧
                t.table.close.reserved = s.table.close.reserved - 1 ∧
                CycleRecorded s t d (s.sub d) true s.table.journal.written) ∧
            ((s.sub d).state = .vacant ∨ (s.sub d).state = .disconnected →
              Folded (s.sub d) (t.sub d) now ∧ t.table.journal = s.table.journal)) ∧
        (∀ e : Drop, e ≠ d → t.sub e = s.sub e) ∧
        (let u := Drop.unit d
         (s.desired d ≠ desiredImage previous (s.sub d) →
            (t.unit u).held = false ∧ (t.unit u).attempts = 0 ∧ AlarmEnded t .orderFailed u.val) ∧
         (s.desired d = desiredImage previous (s.sub d) → t.unit u = s.unit u)) ∧
        (let u := Drop.unit d
         let k := UnitNo.onLeg u
         let before := (s.leg (UnitNo.leg u)).orderQueue
         let joins := s.installed u = true ∧
           ((s.unit u).held = false ∨ s.desired d ≠ desiredImage previous (s.sub d)) ∧
           ∃ port : TapPort,
             (s.unit u).images.map (fun im => look im port) ≠ some (s.desired (dropOf u port))
         (joins →
            (t.leg (UnitNo.leg u)).orderQueue = if k ∈ before then before else before ++ [k]) ∧
         (¬joins → (t.leg (UnitNo.leg u)).orderQueue = before) ∧
         (∀ l : Leg, l ≠ UnitNo.leg u → t.leg l = s.leg l) ∧
         ∀ v : UnitNo, v ≠ u → t.unit v = s.unit v) ∧
        (∀ e : Drop, e.val = d.val + 1 → t.table.activation = .sweeping e previous) ∧
        (d.val = 2047 →
          t.table.activation = .idle ∧
            ∀ q : Port, (s.port q).phase ≠ .detached → (s.port q).role = .manager →
              (t.port q).flags &&& 0x04 = 0x04) ∧
        Calm s t)

/-- R14, R23 and R118: the composition of a band group, the desired image of a drop and its delivered tier
set, member by member. -/
def Obligations.ImagesAndDeliveryFollowTheComposition : Prop :=
  (∀ (lineup : LineUp) (g : Group) (t : Tier),
    Set8.has (look (compositionOf lineup) g) t = true ↔
      ∃ (i : Slot) (e : Program), i.val / 6 = g.val ∧ look lineup i = some e ∧ e.tier = t) ∧
  (∀ (comp : Composition) (x : Subscriber),
    ((desiredImage comp x).on = true ↔ x.state = .active) ∧
      ∀ g : Group,
        Set8.has (desiredImage comp x).pass g = true ↔
          x.state = .active ∧ (∃ t : Tier, Set8.has (look comp g) t = true) ∧
            ∀ t : Tier, Set8.has (look comp g) t = true → Set8.has (x.tiers.getD 0) t = true) ∧
  ∀ (comp : Composition) (x : Subscriber) (confirmed : Option Image) (t : Tier),
    Set8.has (deliveredSet comp x confirmed) t = true ↔
      x.state = .active ∧
        ∃ im, confirmed = some im ∧ im.on = true ∧ Set8.has (x.tiers.getD 0) t = true ∧
          (∃ g : Group, Set8.has (look comp g) t = true) ∧
          ∀ g : Group, Set8.has (look comp g) t = true → Set8.has im.pass g = true

/-- R22, R44 and R50: READ_LINEUP, READ_SOURCE and READ_SLOT_STATE return every field in the order of their
rules; READ_SOURCE with clear-held then sets the held-readings count to 0, and nothing else changes. A table
other than the two is refused BAD_ARGUMENT, and so is a source above 63. That a tier is sent as a presence byte
and the tier, that the eight compositions stand before the eight mixed flags, and that READ_SLOT_STATE carries FF hex
for the slot and for the selection when no matrix transaction is in flight, is the model's choice (log entry 9). -/
def Obligations.LineUpSlotsAndSourcesAreRead : Prop :=
  (∀ (p : Port) (tag table : Byte) (s : State), Asked s p Row.readLineup tag [table] →
    let entry := fun e : SlotEntry =>
      match e with
      | some g =>
        [1, byte g.primary.val,
          match g.fallback with
          | some k => byte k.val
          | none => 0xFF] ++
          [1, byte g.tier.val] ++ yesNo g.autoRevert ++ yesNo g.muted
      | none => [0, 0xFF, 0xFF, 0, 0, 0, 0]
    (table = 0 →
      exec (.readLineup p) s =
        .next
          (s.answered p tag .ok
            (((List.finRange 48).flatMap fun i => entry (look s.table.active i)) ++
              ((List.finRange 8).map fun g => look s.composition g) ++
              (List.finRange 8).flatMap fun g =>
                yesNo
                  (decide
                    (1 < (List.finRange 8).countP fun t => Set8.has (look s.composition g) t))))) ∧
    (table = 1 →
      exec (.readLineup p) s =
        .next
          (s.answered p tag .ok
            ((List.finRange 48).flatMap fun i => entry (look s.table.pendingLineup i)))) ∧
    (1 < table.toNat → exec (.readLineup p) s = .next (s.answered p tag .badArgument []))) ∧
  (∀ (p : Port) (tag src clear : Byte) (s : State), Asked s p Row.readSource tag [src, clear] →
    (63 < src.toNat → exec (.readSource p) s = .next (s.answered p tag .badArgument [])) ∧
    ∀ k : Source, src = byte k.val →
      let m := s.monitor k
      let x := s.source k
      exec (.readSource p) s =
        .next
          ((if clear = 0 then s else s.setSource k { x with held := 0 }).answered p tag .ok
            (yesNo m.monitored ++
              [byte m.threshold, byte m.hysteresis, byte m.persistence, byte m.holdOff,
                byte x.state.code, byte x.belowCount] ++
              optBytes 1 x.lastReading ++
              beBytes 2 (match x.holdOff with
                         | some n => n
                         | none => 0) ++
              [byte x.held] ++
              (let slots :=
                (List.finRange 48).filter fun i =>
                  match look s.table.active i with
                  | some g => decide (g.primary = k ∨ g.fallback = some k)
                  | none => false
               byte slots.length :: slots.map fun i => byte i.val)))) ∧
  ∀ (p : Port) (tag : Byte) (s : State), Asked s p Row.readSlotState tag [] →
    let chosen := fun sel : Option Source =>
      match sel with
      | some k => byte k.val
      | none => 0xFF
    exec (.readSlotState p) s =
      .next
        (s.answered p tag .ok
          (((List.finRange 48).flatMap fun i =>
              [byte (s.slot i).state.code, chosen (s.slot i).selected,
                match (s.slot i).confirmed with
                | .absent => 0xFF
                | .nothing => 64
                | .source k => byte k.val,
                byte (s.slot i).attempts] ++
                yesNo (decide ((s.slot i).attempts = 3))) ++
            (byte s.matrix.queue.length :: s.matrix.queue.map fun i => byte i.val) ++
            (match s.matrix.tx with
             | some t => [byte t.slot.val, chosen t.sent]
             | none => [0xFF, 0xFF])))

/-! ## Sources, slots and the matrix -/

/-- R39, R40, R43, R46, R47 and R49: SET_SOURCE stores the five settings, clamped, and replies with them as
stored. A source made unmonitored becomes NORMAL with no hold-off, its SOURCE_LOSS ends, and the slots that name
it are recomputed with their alarms; one made monitored keeps its state with below-count 0; otherwise the runtime
state is not touched. -/
def Obligations.SourceSettingsAreStored : Prop :=
  ∀ (p : Port) (tag src mon threshold hysteresis persistence holdOff : Byte) (s : State),
    Serving s p Row.setSource tag [src, mon, threshold, hysteresis, persistence, holdOff] →
    (63 < src.toNat → exec (.setSource p) s = .next (s.answered p tag .badArgument [])) ∧
    ∀ k : Source, src = byte k.val →
      let n := persistence.toNat
      let m : SourceSettings :=
        { monitored := decide (mon ≠ 0)
          threshold := threshold.toNat
          hysteresis := min 15 hysteresis.toNat
          persistence := if n ≤ 1 then 1 else if n = 2 then 2 else if n ≤ 4 then 4 else 8
          holdOff := holdOff.toNat }
      let reply : List Byte :=
        [if mon = 0 then 0 else 1, threshold, byte m.hysteresis, byte m.persistence, holdOff]
      let x := s.source k
      ((s.monitor k).monitored = m.monitored →
        exec (.setSource p) s = .next ((s.setMonitor k m).answered p tag .ok reply)) ∧
      ((s.monitor k).monitored = false → m.monitored = true →
        exec (.setSource p) s =
          .next
            (((s.setMonitor k m).setSource k { x with belowCount := 0 }).answered p tag .ok
              reply)) ∧
      ((s.monitor k).monitored = true → m.monitored = false →
        ∃ t : State, exec (.setSource p) s = .next (t.answered p tag .ok reply) ∧
          t.source k = { x with state := .normal, belowCount := 0, holdOff := none } ∧
          (∀ j : Source, j ≠ k → t.source j = s.source j) ∧
          t.table = { s.table with sources := put s.table.sources k m } ∧
          (x.state ≠ .normal → AlarmEnded t .sourceLoss k.val ∧ SourceChangeFollows s t k) ∧
          (x.state = .normal → t.slots = s.slots ∧ t.alarms = s.alarms) ∧ Calm s t)

/-- R38, R41, R43, R46, R47 and R49: what a detector reading does. An invalid one is only counted as held; a
valid one becomes the last reading and, of a monitored source, changes its state by the table of R41. A source
that changes state has the slots that name it recomputed, with their alarms and their places in the matrix queue;
one that is lost from NORMAL or LOSS_PENDING raises SOURCE_LOSS with the reading where a slot names it. From
SHUTDOWN on nothing is applied. -/
def Obligations.DetectorReadingActsByTheTable : Prop :=
  ∀ (k : Source) (v : Byte) (s : State), s.inReset = false →
    let x := s.source k
    let m := s.monitor k
    let low := v.toNat < m.threshold
    let atRestore := min 255 (m.threshold + m.hysteresis) ≤ v.toNat
    let read := { x with lastReading := some v.toNat }
    let lost : SourceRuntime :=
      { read with state := .lost, belowCount := 0, holdOff := none }
    (s.power ≠ .normal →
      exec (.detectorReading k none) s = .next s ∧ exec (.detectorReading k (some v)) s = .next s) ∧
    (s.power = .normal →
      exec (.detectorReading k none) s =
        .next (s.setSource k { x with held := min 255 (x.held + 1) }) ∧
      (m.monitored = false → exec (.detectorReading k (some v)) s = .next (s.setSource k read)) ∧
      (m.monitored = true →
        ∃ t : State, exec (.detectorReading k (some v)) s = .next t ∧
          (∀ j : Source, j ≠ k → t.source j = s.source j) ∧
          t.table = s.table ∧ t.legs = s.legs ∧ Calm s t ∧
          (x.state = .normal → low → m.persistence = 1 → t.source k = lost) ∧
          (x.state = .normal → low → m.persistence ≠ 1 →
            t.source k = { read with state := .lossPending, belowCount := 1 }) ∧
          (x.state = .normal → ¬low → t.source k = read) ∧
          (x.state = .lossPending → low → m.persistence ≤ x.belowCount + 1 → t.source k = lost) ∧
          (x.state = .lossPending → low → x.belowCount + 1 < m.persistence →
            t.source k = { read with belowCount := x.belowCount + 1 }) ∧
          (x.state = .lossPending → ¬low →
            t.source k = { read with state := .normal, belowCount := 0 }) ∧
          (x.state = .lost → atRestore → 0 < m.holdOff →
            t.source k =
              { read with state := .restorePending, holdOff := some (m.holdOff * 10) }) ∧
          (x.state = .lost → atRestore → m.holdOff = 0 →
            t.source k = { read with state := .normal }) ∧
          (x.state = .lost → ¬atRestore → t.source k = read) ∧
          (x.state = .restorePending → ¬atRestore → t.source k = lost) ∧
          (x.state = .restorePending → atRestore → t.source k = read) ∧
          ((t.source k).state = .normal → x.state ≠ .normal → AlarmEnded t .sourceLoss k.val) ∧
          ((t.source k).state = x.state → t.slots = s.slots ∧ t.alarms = s.alarms) ∧
          ((t.source k).state ≠ x.state → SourceChangeFollows s t k) ∧
          ((t.source k).state = .lost → x.state = .normal ∨ x.state = .lossPending →
            ((∃ i, Names s.table.active i k) →
              AlarmBegun s t .sourceLoss k.val (BitVec.ofNat 16 v.toNat)) ∧
            ((∀ i, ¬Names s.table.active i k) → t.slots = s.slots ∧ t.alarms = s.alarms))))

/-- R42, R43, R46 to R49: a hold-off that expires makes its source NORMAL with below-count 0, ends SOURCE_LOSS and
has the slots that name the source recomputed with their alarms; a REVERT_SLOT returns a slot ON_FALLBACK to a
primary that is NORMAL, and is refused WRONG_STATE otherwise. That an expiry with no hold-off running changes
nothing, and that hold-offs expire in SHUTDOWN too, is the model's choice (log entries 6 and 23). -/
def Obligations.HoldOffExpiresAndSlotReverts : Prop :=
  (∀ (k : Source) (s : State), s.inReset = false →
    (((s.source k).state ≠ .restorePending ∨ (s.source k).holdOff = none) →
      exec (.holdOffExpiry k) s = .next s) ∧
    ((s.source k).state = .restorePending → (s.source k).holdOff ≠ none →
      ∃ t : State, exec (.holdOffExpiry k) s = .next t ∧
        t.source k = { s.source k with state := .normal, belowCount := 0, holdOff := none } ∧
        (∀ j : Source, j ≠ k → t.source j = s.source j) ∧ AlarmEnded t .sourceLoss k.val ∧
        SourceChangeFollows s t k ∧ t.table = s.table ∧ Calm s t)) ∧
  ∀ (p : Port) (tag slot : Byte) (s : State), Serving s p Row.revertSlot tag [slot] →
    (47 < slot.toNat → exec (.revertSlot p) s = .next (s.answered p tag .badArgument [])) ∧
    ∀ i : Slot, slot = byte i.val →
      let onFallback := (s.slot i).state = .onFallback
      (∀ g, look s.table.active i = some g → onFallback → (s.source g.primary).state = .normal →
        ∃ t : State, exec (.revertSlot p) s = .next (t.answered p tag .ok []) ∧
          t.slot i = { s.slot i with state := .onPrimary, selected := some g.primary } ∧
          (∀ j : Slot, j ≠ i → t.slot j = s.slot j) ∧ AlarmEnded t .slotOnFallback i.val ∧
          ((s.slot i).selected ≠ some g.primary →
            i ∈ t.matrix.queue ∨ t.matrix.tx.map MatrixTx.slot = some i) ∧
          t.table = s.table ∧ t.sources = s.sources ∧ Calm s t) ∧
      (∀ g, look s.table.active i = some g → (s.source g.primary).state ≠ .normal →
        exec (.revertSlot p) s = .next (s.answered p tag .wrongState [])) ∧
      (¬onFallback → exec (.revertSlot p) s = .next (s.answered p tag .wrongState []))

/-- R52, R53 and R173: with a slot in the queue and no transaction in flight, a transaction begins in NORMAL:
the slot at the head leaves the queue, its selection is kept as the one sent, the SELECT frame carries both, and
no limit runs yet. The end of a SELECT frame starts the limit; a well-formed ACK of the slot and its current
selection confirms it; an ACK of anything else, or none before the limit, is a failed attempt, and the third
raises MATRIX_FAULT; each end begins the next transaction. Every frame that is no well-formed ACK, by its
length, its kind, its slot, its source, its check byte or a fault of a character, and every frame with no
transaction in flight, is discarded. A glitch is no character of a frame (R58). That a mark is a one (log entry
8), that a timeout with no limit running changes nothing (log entry 6), and that an ACK before the SELECT's end
is taken (log entry 24) is the model's choice. -/
def Obligations.MatrixTransactionRunsItsCourse : Prop :=
  ∀ s : State, s.inReset = false →
    let heard := fun (chars : List (List Level)) (bytes : List Byte) =>
      chars.filterMap (takeCharacter true) =
        bytes.map fun b => { data := b, framingFault := false, parityFault := false }
    let ack := fun slot src : Nat =>
      [0x02, byte slot, byte src, 0x02 ^^^ byte slot ^^^ byte src]
    (∀ tx, s.matrix.tx = some tx →
      exec .matrixSelectSent s =
        .next { s with matrix := { s.matrix with tx := some { tx with limitRuns := true } } }) ∧
    (∀ chars, s.matrix.tx = none → exec (.matrixFrameReceived chars) s = .next s) ∧
    (∀ chars : List (List Level),
      (∀ slot src : Nat, slot ≤ 47 → src ≤ 64 → ¬heard chars (ack slot src)) →
      exec (.matrixFrameReceived chars) s = .next s) ∧
    (s.matrix.tx = none ∨ (∃ tx, s.matrix.tx = some tx ∧ tx.limitRuns = false) →
      exec .matrixAckTimeout s = .next s) ∧
    ∀ tx, s.matrix.tx = some tx →
      let i := tx.slot
      let x := s.slot i
      let chosen : Nat :=
        match x.selected with
        | some k => k.val
        | none => 64
      (∀ chars, heard chars (ack i.val chosen) →
        ∃ t : State, exec (.matrixFrameReceived chars) s = .next t ∧ MatrixBegins t s.matrix.queue ∧
        t.slot i =
          { x with
            confirmed :=
              match x.selected with
              | some k => .source k
              | none => .nothing
            attempts := 0 } ∧
        (∀ j : Slot, j ≠ i → t.slot j = s.slot j) ∧ AlarmEnded t .matrixFault i.val ∧
        t.table = s.table ∧ Calm s t) ∧
      ∀ c : Instr,
        ((c = .matrixAckTimeout ∧ tx.limitRuns = true) ∨
          ∃ (chars : List (List Level)) (slot src : Nat),
            c = .matrixFrameReceived chars ∧ heard chars (ack slot src) ∧ slot ≤ 47 ∧ src ≤ 64 ∧
              ¬(slot = i.val ∧ src = chosen)) →
        ∃ t : State, exec c s = .next t ∧ (∀ j : Slot, j ≠ i → t.slot j = s.slot j) ∧
          t.table = s.table ∧ Calm s t ∧
          (x.attempts < 2 →
            t.slot i = { x with attempts := x.attempts + 1 } ∧ t.alarms = s.alarms ∧
              MatrixBegins t (if i ∈ s.matrix.queue then s.matrix.queue else s.matrix.queue ++ [i]) ∧
              (i ∈ t.matrix.queue ∨ t.matrix.tx.map MatrixTx.slot = some i)) ∧
          (2 ≤ x.attempts →
            t.slot i = { x with attempts := 3, confirmed := .absent } ∧
              MatrixBegins t (s.matrix.queue.filter (· ≠ i)) ∧ i ∉ t.matrix.queue ∧
              t.matrix.tx.map MatrixTx.slot ≠ some i ∧
              t.alarms =
                (s.raise .matrixFault i.val
                  (match tx.sent with
                   | some k => BitVec.ofNat 16 k.val
                   | none => 64)).alarms)

/-- R57, R58, R64 and R172: a clean character is taken as its byte with no fault, with the noise filter on or
off; a space of seven samples or fewer is a glitch and no character, one of eight or more begins one; a receiver
that waits for mark takes none from a line at space. A reply is classified VALID exactly when no character has a
fault, its length is that of its frame, it comes from the target with the reply marker, repeats the kind, has the
length the kind asks for, and its CRC is right; otherwise it has the first class, in the order of R64, whose
condition holds. That a mark is a one (log entry 8), and how the samples are numbered (log entry 14), is the
model's choice. -/
def Obligations.CharactersAndRepliesAreJudged : Prop :=
  (∀ (filter : Bool) (b : Byte),
    takeCharacter filter (cleanSamples b) =
      some { data := b, framingFault := false, parityFault := false }) ∧
  (∀ (filter : Bool) (n m : Nat),
    let pulse := List.replicate n Level.space ++ List.replicate m Level.mark
    (n ≤ 7 → takeCharacter filter pulse = none) ∧
      (8 ≤ n → 1 ≤ m → (takeCharacter filter pulse).isSome = true) ∧
      Receiver.waiting.take filter (List.replicate n .space) = none) ∧
  ∀ (k : FrameKind) (u : LegUnit) (chars : List RxChar),
    let data := chars.map RxChar.data
    let len := (data.getD 2 0).toNat
    let clean := ∀ c ∈ chars, c.framingFault = false ∧ c.parityFault = false
    let framing := ∃ c ∈ chars, c.framingFault = true
    let short := data.length < 3 ∨ data.length < 5 + len
    let stranger := data.getD 0 0 ≠ byte (0x80 + u.val) ∨ data.getD 1 0 ≠ k.char
    let wrongCrc := crcGood (data.take (5 + len)) = false
    (classify k u chars = .valid ↔
      clean ∧ data.length = 5 + k.replyLength ∧ data.getD 0 0 = byte (0x80 + u.val) ∧
        data.getD 1 0 = k.char ∧ data.getD 2 0 = byte k.replyLength ∧ crcGood data = true) ∧
      (framing → classify k u chars = .lineError .framing) ∧
      (¬framing → ¬clean → classify k u chars = .lineError .parity) ∧
      (clean → short → classify k u chars = .lineError .truncated) ∧
      (clean → ¬short → stranger → classify k u chars = .lineError .wrongPartner) ∧
      (clean → ¬short → ¬stranger → len ≠ k.replyLength →
        classify k u chars = .lineError .length) ∧
      (clean → ¬short → ¬stranger → len = k.replyLength → wrongCrc →
        classify k u chars = .lineError .crc) ∧
      (clean → ¬stranger → len = k.replyLength → ¬wrongCrc → 5 + len < data.length →
        classify k u chars = .lineError .overrun)

/-! ## Plant legs -/

/-- R66 to R69 and R81: SET_LEG stores the seven settings, clamped, and replies with them as stored; START_LEG
and STOP_LEG move the run state by the table of R68 and reply with it, and on a free line a START_LEG has the
arbiter choose at once; CLEAR_LEG_COUNTERS sets the fourteen counters to 0. A leg above 3, and a line rate code
above 2, are refused BAD_ARGUMENT. That the reply carries the line rate as the one-byte code of a request, 0 to
2, and that the noise filter is on for every argument but 00 hex and is sent as 01 hex for on and 00 hex for off,
is the model's choice (log entry 9). -/
def Obligations.LegRequestsActByTheTables : Prop :=
  (∀ (p : Port) (tag b : Byte) (s : State), 3 < b.toNat →
    ∀ e ∈
      ([(.startLeg p, Row.startLeg), (.stopLeg p, Row.stopLeg),
        (.clearLegCounters p, Row.clearLegCounters)] : List (Instr × Row)),
      Serving s p e.2 tag [b] → exec e.1 s = .next (s.answered p tag .badArgument [])) ∧
  (∀ (p : Port) (tag leg rate filter blanking window tickHigh tickLow limit warning : Byte) (s : State),
    Serving s p Row.setLeg tag
      [leg, rate, filter, blanking, window, tickHigh, tickLow, limit, warning] →
    (3 < leg.toNat ∨ 2 < rate.toNat →
      exec (.setLeg p) s = .next (s.answered p tag .badArgument [])) ∧
    ∀ (l : Leg) (r : LineRate), leg = byte l.val → rate = byte r.code →
      let w := window.toNat
      let m : LegSettings :=
        { rate := r
          filter := decide (filter ≠ 0)
          blanking := min 15 blanking.toNat
          window := if w ≤ 1 then 2 else if 62 ≤ w then 62 else if w % 2 = 1 then w + 1 else w
          tick := min 500 (max 5 (tickHigh.toNat * 256 + tickLow.toNat))
          missLimit := min 7 (max 1 limit.toNat)
          warning := warning.toNat }
      exec (.setLeg p) s =
        .next
          ((s.setLegSettings l m).answered p tag .ok
            ([rate, if filter = 0 then 0 else 1, byte m.blanking, byte m.window] ++
              beBytes 2 m.tick ++ [byte m.missLimit, warning]))) ∧
  ∀ (p : Port) (tag : Byte) (l : Leg) (s : State),
    let g := s.leg l
    (Serving s p Row.startLeg tag [byte l.val] →
      (s.run l = .running → exec (.startLeg p) s = .next (s.answered p tag .ok [1])) ∧
      (s.run l ≠ .running →
        ∃ t : State, exec (.startLeg p) s = .next (t.answered p tag .ok [1]) ∧
          t.table = { s.table with run := put s.table.run l .running } ∧
          (t.leg l).tickInterval = some (s.legSettings l).tick ∧ (t.leg l).pointer = g.pointer ∧
          (g.tx ≠ none →
            t.leg l = { g with tickInterval := some (s.legSettings l).tick }) ∧
          (g.tx = none →
            t =
              ((s.setRun l .running).setLeg l
                { g with tickInterval := some (s.legSettings l).tick }).arbitrate l) ∧
          (∀ k : Leg, k ≠ l → t.leg k = s.leg k) ∧ t.alarms = s.alarms ∧ Calm s t)) ∧
    (Serving s p Row.stopLeg tag [byte l.val] →
      (s.run l = .running → g.tx ≠ none →
        exec (.stopLeg p) s =
          .next
            (((s.setRun l .stopping).setLeg l { g with tickInterval := none }).answered p tag .ok
              [2])) ∧
      (s.run l = .running → g.tx = none →
        exec (.stopLeg p) s =
          .next
            (((s.setRun l .stopped).setLeg l { g with tickInterval := none }).answered p tag .ok
              [0])) ∧
      (s.run l ≠ .running →
        exec (.stopLeg p) s = .next (s.answered p tag .ok [byte (s.run l).code]))) ∧
    (Serving s p Row.clearLegCounters tag [byte l.val] →
      exec (.clearLegCounters p) s =
        .next
          ((s.setLeg l { g with counters := ⟨0, 0, 0, 0, 0, 0, 0, 0, 0, 0, 0, 0, 0, 0⟩ }).answered p
            tag .ok []))

/-- R78 to R80: a DIRECT is refused for its arguments, a slot that is not empty or a STOPPED leg; otherwise the
slot is SUBMITTED, and the transaction begins at once when the leg is RUNNING with a free line and no due poll
ahead of it. READ_DIRECT gives the result of a DONE slot to its owner and empties the slot. The code of the
outcome class, and that the status block stands at the end of the body without a presence byte and is left out
where there is none, is the model's choice (log entry 9). -/
def Obligations.DirectTransactionIsAskedAndCollected : Prop :=
  (∀ (p : Port) (tag leg unit kind : Byte) (s : State), Serving s p Row.direct tag [leg, unit, kind] →
    (3 < leg.toNat ∨ 31 < unit.toNat ∨ (kind ≠ 0 ∧ kind ≠ 2) →
      exec (.direct p) s = .next (s.answered p tag .badArgument [])) ∧
    ∀ (l : Leg) (u : LegUnit) (k : FrameKind), leg = byte l.val → unit = byte u.val →
      (kind = 0 ∧ k = .poll ∨ kind = 2 ∧ k = .range) →
      let g := s.leg l
      let m := s.legSettings l
      let job : DirectJob := { owner := p, kind := k, unit := u }
      (g.direct ≠ .empty → exec (.direct p) s = .next (s.answered p tag .busy [])) ∧
      (g.direct = .empty → s.run l = .stopped →
        exec (.direct p) s = .next (s.answered p tag .wrongState [])) ∧
      (g.direct = .empty → (s.run l = .stopping ∨ (s.run l = .running ∧ g.tx ≠ none)) →
        exec (.direct p) s =
          .next ((s.setLeg l { g with direct := .submitted job }).answered p tag .started [])) ∧
      (g.direct = .empty → s.run l = .running → g.tx = none →
        (g.promotion = false ∨ g.dueQueue = []) →
        exec (.direct p) s =
          .next
            ((s.setLeg l
                { g with
                  direct := .inFlight job
                  tx :=
                    some
                      { kind := k, unit := u, purpose := .direct
                        frame := withCrc [byte u.val, k.char, 0]
                        images := none, rate := m.rate, filter := m.filter
                        blanking := m.blanking, window := m.window, phase := .sending
                        latency := none, collected := [], receiver := .hunting
                        targetGone := false }
                  counters := { g.counters with directSent := g.counters.directSent + 1 } }).answered
              p tag .started []))) ∧
  ∀ (p : Port) (tag leg : Byte) (s : State), Serving s p Row.readDirect tag [leg] →
    (3 < leg.toNat → exec (.readDirect p) s = .next (s.answered p tag .badArgument [])) ∧
    ∀ l : Leg, leg = byte l.val →
      let g := s.leg l
      (g.direct = .empty → exec (.readDirect p) s = .next (s.answered p tag .wrongState [])) ∧
      ∀ job : DirectJob,
        (job.owner ≠ p →
          (g.direct = .submitted job ∨ g.direct = .inFlight job ∨ ∃ r, g.direct = .done job r) →
          exec (.readDirect p) s = .next (s.answered p tag .notPermitted [])) ∧
        (job.owner = p → (g.direct = .submitted job ∨ g.direct = .inFlight job) →
          exec (.readDirect p) s = .next (s.answered p tag .busy [])) ∧
        ∀ r : DirectResult, job.owner = p → g.direct = .done job r →
          exec (.readDirect p) s =
            .next
              ((s.setLeg l { g with direct := .empty }).answered p tag .ok
                ([byte job.kind.code, byte job.unit.val, byte r.outcome.code] ++
                  optBytes 2 r.latency ++ r.block))

/-- R73 to R75, R81 and R82: at a poll tick of a RUNNING leg the next interval starts with the tick stored, the
pointer advances to the next installed unit, and that unit joins the due-poll queue, turning promotion mode on
when the queue comes to six, or counts as a skipped poll when it already waits. With a transaction in flight the
unit waits; on a free line the arbiter chooses at once, and with nothing else waiting it sends the unit its
POLL. From SHUTDOWN on ticks have no effect (R179). R68 lets no tick run on a leg that is not RUNNING; that a
POLL_TICK there leaves the state as it is, is the model's choice (log entry 6). -/
def Obligations.PollTickMakesAUnitDue : Prop :=
  ∀ (l : Leg) (s : State), s.inReset = false →
    let g := { s.leg l with tickInterval := some (s.legSettings l).tick }
    (s.run l ≠ .running ∨ s.power ≠ .normal → exec (.pollTick l) s = .next s) ∧
    (s.run l = .running → s.power = .normal →
      ((∀ v : LegUnit, s.installed (unitOf l v) = false) →
        exec (.pollTick l) s = .next (s.setLeg l g)) ∧
      ∀ u : LegUnit, s.installed (unitOf l u) = true →
        ((g.pointer < u ∧ ∀ v : LegUnit, g.pointer < v → v < u → s.installed (unitOf l v) = false) ∨
          ((∀ v : LegUnit, g.pointer < v → s.installed (unitOf l v) = false) ∧
            ∀ v : LegUnit, v < u → s.installed (unitOf l v) = false)) →
        (u ∈ g.dueQueue →
          exec (.pollTick l) s =
            .next
              (s.setLeg l
                { g with
                  pointer := u
                  counters :=
                    { g.counters with skippedPolls := g.counters.skippedPolls + 1 } })) ∧
        (u ∉ g.dueQueue →
          let sixth :=
            s.setLeg l
              { g with
                pointer := u
                dueQueue := g.dueQueue ++ [u]
                promotion := true
                counters := { g.counters with promotions := g.counters.promotions + 1 } }
          let joined := s.setLeg l { g with pointer := u, dueQueue := g.dueQueue ++ [u] }
          (g.dueQueue.length = 5 → g.promotion = false →
            (g.tx ≠ none → exec (.pollTick l) s = .next sixth) ∧
              (g.tx = none → exec (.pollTick l) s = .next (sixth.arbitrate l))) ∧
          (g.dueQueue.length ≠ 5 ∨ g.promotion = true →
            (g.tx ≠ none → exec (.pollTick l) s = .next joined) ∧
              (g.tx = none → exec (.pollTick l) s = .next (joined.arbitrate l)) ∧
              (g.tx = none → g.dueQueue = [] → g.promotion = false → g.direct = .empty →
                (∀ v ∈ g.orderQueue, s.isDead (unitOf l v) = true) →
                ∃ t : State, exec (.pollTick l) s = .next t ∧ (t.leg l).dueQueue = [] ∧
                  (t.leg l).tx.map (fun x => (x.kind, x.unit, x.purpose, x.phase)) =
                    some (.poll, u, .duePoll, .sending) ∧
                  (t.leg l).counters.pollsSent = g.counters.pollsSent + 1))))

/-- R81, R82 and R59: on a RUNNING leg with a free line, in NORMAL, the arbiter takes a due poll first in
promotion mode, then the direct transaction, then the order of the first unit that is not DEAD, then a due
poll; the transaction is begun with the leg's settings and its frame, and its send counter rises. And over every
step, whatever brings a candidate or frees a line (a tick, the end of a transaction, a START_LEG, a DIRECT, a unit
that joins a queue or leaves DEAD): where no RUNNING leg stood with a free line and a candidate, none stands so
after it, so the arbiter has begun the transaction within the step. That last is shown for the states in which the
queues hold installed units only, as they do in every state that is reached (R74 to R76). -/
def Obligations.ArbiterChoosesInOrder : Prop :=
  (∀ s t : State, QueuesSound s → ArbiterSound s → step s = .next t → ArbiterSound t) ∧
  ∀ (l : Leg) (s : State), s.run l = .running → (s.leg l).tx = none → s.power = .normal →
    let g := s.leg l
    let m := s.legSettings l
    let begun := fun (k : FrameKind) (u : LegUnit) (w : Purpose) (payload : List Byte)
        (images : Option Images) =>
      some
        { kind := k, unit := u, purpose := w
          frame := withCrc ([byte u.val, k.char, byte payload.length] ++ payload)
          images := images, rate := m.rate, filter := m.filter, blanking := m.blanking
          window := m.window, phase := .sending, latency := none, collected := []
          receiver := .hunting, targetGone := false : Transaction }
    let noOrder := ∀ v ∈ g.orderQueue, s.isDead (unitOf l v) = true
    let noDirect := ∀ j, g.direct ≠ .submitted j
    (∀ u rest, g.dueQueue = u :: rest → u ∉ rest →
      (g.promotion = true ∨ (noDirect ∧ noOrder)) →
      s.arbitrate l =
        s.setLeg l
          { g with
            tx := begun .poll u .duePoll [] none
            dueQueue := rest
            promotion := if rest.length = 2 then false else g.promotion
            counters := { g.counters with pollsSent := g.counters.pollsSent + 1 } }) ∧
    (∀ j, g.direct = .submitted j → (g.promotion = false ∨ g.dueQueue = []) →
      s.arbitrate l =
        s.setLeg l
          { g with
            tx := begun j.kind j.unit .direct [] none
            direct := .inFlight j
            counters := { g.counters with directSent := g.counters.directSent + 1 } }) ∧
    (∀ before u after, noDirect → (g.promotion = false ∨ g.dueQueue = []) →
      g.orderQueue = before ++ u :: after → (∀ v ∈ before, s.isDead (unitOf l v) = true) →
      s.isDead (unitOf l u) = false →
      let images : Images := tabulate 16 fun port => s.desired (dropOf (unitOf l u) port)
      s.arbitrate l =
        s.setLeg l
          { g with
            tx := begun .setports u .order (imagesBytes images) (some images)
            counters := { g.counters with ordersSent := g.counters.ordersSent + 1 } }) ∧
    (g.dueQueue = [] → noDirect → noOrder → s.arbitrate l = s)

/-- R56, R58 and R61 to R63: the phases of a transaction. The end of sending leads to blanking, or to the window
when the blanking time is 0; blanking to the window; a start bit confirmed in the window to receiving, with the
latency in tenths of a millisecond; in receiving a start bit confirmed keeps the reply from ending, a glitch is
no character and leaves the receiver as its samples leave it, characters are collected, one with a framing fault
makes the receiver wait for mark, and the 261st ends the reply. That an event outside its phase is discarded
(log entry 6), and how samples are numbered and the receiver's state is kept (log entry 14), is the model's
choice. -/
def Obligations.TransactionPhasesFollow : Prop :=
  ∀ (l : Leg) (s : State), s.inReset = false →
    let g := s.leg l
    let phase := g.tx.map Transaction.phase
    (phase ≠ some .sending → exec (.sendingEnd l) s = .next s) ∧
    (phase ≠ some .blanking → exec (.blankingExpiry l) s = .next s) ∧
    (phase ≠ some .window → phase ≠ some .receiving →
      ∀ micros samples, exec (.startBitConfirmed l micros samples) s = .next s) ∧
    (phase ≠ some .receiving →
      ∀ samples, exec (.replyCharacterReceived l samples) s = .next s) ∧
    ∀ tx : Transaction, g.tx = some tx →
      let become := fun tx : Transaction => s.setLeg l { g with tx := some tx }
      (tx.phase = .sending →
        (tx.blanking = 0 → exec (.sendingEnd l) s = .next (become { tx with phase := .window })) ∧
        (tx.blanking ≠ 0 →
          exec (.sendingEnd l) s = .next (become { tx with phase := .blanking }))) ∧
      (tx.phase = .blanking →
        exec (.blankingExpiry l) s = .next (become { tx with phase := .window })) ∧
      (tx.phase = .window →
        ∀ micros samples,
          (startConfirmed tx.filter samples = true →
            exec (.startBitConfirmed l micros samples) s =
              .next
                (s.setLeg l
                  { g with
                    tx :=
                      some
                        { tx with
                          phase := .receiving
                          receiver := .character
                          latency := some (micros / 100) }
                    lastLatency := some (micros / 100) })) ∧
          (startConfirmed tx.filter samples = false →
            exec (.startBitConfirmed l micros samples) s = .next s)) ∧
      (tx.phase = .receiving →
        (∀ micros n m,
          (9 ≤ n →
            exec (.startBitConfirmed l micros ([.mark, .mark] ++ List.replicate n .space)) s =
              .next (become { tx with receiver := .character })) ∧
          (n ≤ 7 → tx.receiver = .hunting →
            exec
                (.startBitConfirmed l micros
                  (List.replicate n .space ++ List.replicate m .mark)) s =
              .next (become { tx with receiver := .hunting })) ∧
          (tx.receiver = .waiting →
            exec (.startBitConfirmed l micros (List.replicate n .space)) s =
              .next (become { tx with receiver := .waiting }))) ∧
        (tx.receiver = .character ∨ tx.collected = [] → exec (.replyQuietEnd l) s = .next s) ∧
        ∀ samples,
          (tx.receiver.take tx.filter samples = none →
            exec (.replyCharacterReceived l samples) s =
              .next (become { tx with receiver := tx.receiver.after tx.filter samples })) ∧
          ∀ c : RxChar, tx.receiver.take tx.filter samples = some c →
            let more : Transaction :=
              { tx with
                collected := tx.collected ++ [c]
                receiver := if c.framingFault then .waiting else .hunting }
            (tx.collected.length < 260 →
              exec (.replyCharacterReceived l samples) s = .next (become more)) ∧
            (260 ≤ tx.collected.length →
              exec (.replyCharacterReceived l samples) s = exec (.replyQuietEnd l) (become more)))

/-- R34, R65, R79, R86, R93, R98, R100, R104, R119, R122, R124, R135 and R136: a reply window that expires ends the
transaction SILENT. The leg counts it; an installed target that was polled or ordered takes one miss, becomes
SUSPECT or reaches its miss limit and enters DEAD with the outage dated from the first miss. Its SERVICE segments
are folded there, that of a lagging drop after its catch-up close with an EARLY CYCLE record, and become OUTAGE; its
NONE segments are left as they stand where the recomputed set is the held one. What becomes of a segment whose held
set differs from the set that R34 and R119 recompute is the model's reading (log entry 12, DEDUCED): a SERVICE
segment is folded at the same minute with its held set, and a NONE segment, which R124 leaves as it stands, at the
current minute, that of a lagging drop after a catch-up close with an EARLY CYCLE record; the segment left holds the
recomputed set and is OUTAGE, or NONE where that set is empty. No other record is written. With the clock NOT_SET
each segment is replaced instead: OUTAGE for a non-empty held set and NONE for an empty one, its start absent and no
minutes added. The dead counts and outage alarms follow along the path; no other unit and no drop of another unit
changes; a direct slot becomes DONE; a STOPPING leg becomes STOPPED. That an expiry outside WINDOW changes nothing
(log entry 6), and that a target uninstalled in flight takes no miss even when it is installed again (log entry 21),
is the model's choice. -/
def Obligations.SilenceCountsAMiss : Prop :=
  ∀ (l : Leg) (s : State), s.inReset = false →
    ((s.leg l).tx.map Transaction.phase ≠ some .window →
      exec (.replyWindowExpiry l) s = .next s) ∧
    ∀ tx : Transaction, (s.leg l).tx = some tx → tx.phase = .window →
      let u := unitOf l tx.unit
      let x := s.unit u
      let takesMiss := tx.kind ≠ .range ∧ tx.targetGone = false ∧ x.feeding ≠ none
      ∃ t : State, exec (.replyWindowExpiry l) s = .next t ∧ Calm s t ∧
        (t.leg l).counters.silent = (s.leg l).counters.silent + 1 ∧
        (t.leg l).counters.validReplies = (s.leg l).counters.validReplies ∧
        (t.leg l).lineErrors = (s.leg l).lineErrors ∧
        (∀ v : UnitNo, v ≠ u → t.unit v = s.unit v) ∧
        (¬takesMiss →
          t.unit u = x ∧ t.roots = s.roots ∧ t.table.nodes = s.table.nodes ∧
            t.table.subs = s.table.subs ∧ t.alarms = s.alarms) ∧
        (takesMiss → MissCounted s t u) ∧
        (∀ job : DirectJob, tx.purpose = .direct → (s.leg l).direct = .inFlight job →
          (t.leg l).direct =
            .done job { outcome := .silent, block := [], latency := tx.latency } ∧
            ((s.port job.owner).phase ≠ .detached →
              (t.port job.owner).flags &&& 0x10 = 0x10)) ∧
        (s.run l = .stopping → t.run l = .stopped ∧ (t.leg l).tx = none) ∧
        (s.run l ≠ .stopping → t.run l = s.run l)

/-- R34, R64, R65, R69, R70, R79, R83, R84, R87, R93, R94, R98, R100 to R103, R119, R124 to R126, R135 and R136: the
quiet after a reply ends the transaction. A VALID reply to a POLL of an installed unit is counted, ends the run of
line errors and LEG_NOISE, and brings the unit back to ALIVE with its flags, supply reading, power alarm and images
stored, UNIT_TAMPER and NODE_POWER following; where it was DEAD its drops are folded and judged, a lagging one after
its catch-up close with an EARLY CYCLE record, the counts and outage alarms follow; each drop whose image changed,
or which a sweep has not reached (R34), has its set recomputed, and is folded where it differs, a lagging one after
its close; no other record is written, no drop of another unit changes; RESET, or a return from DEAD, ends the hold;
a unit that drifts and is not held is queued. A VALID reply to a RANGE, or of a target that is not installed or was
uninstalled in flight, is counted and changes no unit, node or subscriber and raises no alarm. A reply with a line
error is counted in its class alone, the sixteenth in a row raises LEG_NOISE, and an installed target that was
polled or ordered takes a miss and keeps its images, flags and supply. Where it enters DEAD, what becomes of a
segment whose held set differs from the recomputed one is the model's reading of R34, R119 and R124 (log entry 12,
DEDUCED): a SERVICE segment is folded where the outage begins, a NONE segment now, a lagging drop's after its
catch-up close with an EARLY CYCLE record, and the one left holds the recomputed set. Whatever the outcome, a direct
slot in flight becomes DONE with it, the block of a VALID reply and the latency, with DIRECT attention for its
owner, and a STOPPING leg becomes STOPPED. The model's choice: a quiet end outside RECEIVING changes nothing (log
entry 6), a target uninstalled in flight stays so for its transaction (log entry 21), and UNIT_TAMPER carries the
three defined flags alone (R175; log entry 30). -/
def Obligations.ReplyBringsAUnitBackOrCountsAnError : Prop :=
  ∀ (l : Leg) (s : State), s.inReset = false →
    ((s.leg l).tx.map Transaction.phase ≠ some .receiving →
      exec (.replyQuietEnd l) s = .next s) ∧
    ∀ tx : Transaction, (s.leg l).tx = some tx → tx.phase = .receiving → tx.receiver ≠ .character →
      tx.collected ≠ [] →
      let u := unitOf l tx.unit
      let x := s.unit u
      let block := ((tx.collected.map RxChar.data).drop 3).take 34
      (classify tx.kind tx.unit tx.collected = .valid → tx.kind = .poll → tx.images = none →
        tx.targetGone = false → x.feeding ≠ none →
        let reset := block.getD 0 0 &&& 0x01 ≠ 0 ∨ x.liveness = .dead
        let queue := (s.leg l).orderQueue
        ∃ t : State, exec (.replyQuietEnd l) s = .next t ∧ StatusApplied s t l u block ∧
          (t.unit u).attempts = (if reset then 0 else x.attempts) ∧
          (t.unit u).held = (if reset then false else x.held) ∧
          (reset → AlarmEnded t .orderFailed u.val) ∧
          (let joins := (t.unit u).held = false ∧ tx.unit ∉ queue ∧
             ∃ port : TapPort, s.desired (dropOf u port) ≠ blockImage block port
           (joins → (t.leg l).orderQueue = queue ++ [tx.unit]) ∧
             (¬joins → (t.leg l).orderQueue = queue))) ∧
      (classify tx.kind tx.unit tx.collected = .valid →
        tx.kind = .range ∨ tx.targetGone = true ∨ x.feeding = none →
        ∃ t : State, exec (.replyQuietEnd l) s = .next t ∧ Calm s t ∧
          (t.leg l).counters.validReplies = (s.leg l).counters.validReplies + 1 ∧
          (t.leg l).lineErrors = 0 ∧ AlarmEnded t .legNoise l.val ∧ t.table.units = s.table.units ∧
          t.table.subs = s.table.subs ∧ t.table.nodes = s.table.nodes ∧ t.roots = s.roots ∧
          ∀ (k : AlarmKind) (o : Nat), k ≠ .legNoise → AlarmEnded s k o → AlarmEnded t k o) ∧
      (∃ t : State, exec (.replyQuietEnd l) s = .next t ∧
        (s.run l = .stopping → t.run l = .stopped ∧ (t.leg l).tx = none) ∧
        (s.run l ≠ .stopping → t.run l = s.run l) ∧
        ∀ job : DirectJob, tx.purpose = .direct → (s.leg l).direct = .inFlight job →
          (t.leg l).direct =
              .done job
                { outcome := classify tx.kind tx.unit tx.collected
                  block :=
                    if classify tx.kind tx.unit tx.collected = .valid then
                      ((tx.collected.map RxChar.data).drop 3).take (tx.collected.length - 5)
                    else []
                  latency := tx.latency } ∧
            ((s.port job.owner).phase ≠ .detached →
              (t.port job.owner).flags &&& 0x10 = 0x10)) ∧
      (∀ c : LineError, classify tx.kind tx.unit tx.collected = .lineError c →
        let takesMiss := tx.kind ≠ .range ∧ tx.targetGone = false ∧ x.feeding ≠ none
        ∃ t : State, exec (.replyQuietEnd l) s = .next t ∧ Calm s t ∧
          (let a := (s.leg l).counters
           let b := (t.leg l).counters
           let one := fun k : LineError => if c = k then (1 : BitVec 32) else 0
           b.validReplies = a.validReplies ∧ b.silent = a.silent ∧
             b.framing = a.framing + one .framing ∧ b.parity = a.parity + one .parity ∧
             b.truncated = a.truncated + one .truncated ∧ b.length = a.length + one .length ∧
             b.crc = a.crc + one .crc ∧ b.overrun = a.overrun + one .overrun ∧
             b.wrongPartner = a.wrongPartner + one .wrongPartner) ∧
          (t.leg l).lineErrors = min 255 ((s.leg l).lineErrors + 1) ∧
          ((s.leg l).lineErrors = 15 → AlarmBegun s t .legNoise l.val 16) ∧
          ((s.leg l).lineErrors ≠ 15 →
            ∀ e ∈ t.alarms.entries, e.kind = .legNoise → e ∈ s.alarms.entries) ∧
          (∀ v : UnitNo, v ≠ u → t.unit v = s.unit v) ∧
          (t.unit u).images = x.images ∧ (t.unit u).flags = x.flags ∧
          (t.unit u).supply = x.supply ∧ (t.unit u).attempts = x.attempts ∧
          (takesMiss → MissCounted s t u) ∧
          (¬takesMiss →
            t.unit u = x ∧ t.roots = s.roots ∧ t.table.nodes = s.table.nodes ∧
              t.table.subs = s.table.subs ∧
              ((s.leg l).lineErrors ≠ 15 → t.alarms = s.alarms)))

/-- R34, R65, R70, R77, R83, R85, R87, R94, R98, R100 to R103, R110 to R112, R119, R125, R126, R135 and R136: a VALID
reply to an order of an installed unit is applied like one to a poll. It is counted, ends the run of line errors and
LEG_NOISE, and makes the unit ALIVE with no misses and with the flags, supply reading, power alarm and images of the
reply, UNIT_TAMPER and NODE_POWER following. Where the unit was DEAD its drops are folded and judged, a lagging one
after its catch-up close with an EARLY CYCLE record, and the dead counts and outage alarms follow; each drop whose
image changed, or which a sweep has not reached (R34), has its delivered tier set recomputed, and is folded where
the set differs, a lagging one after its catch-up close; no other record is written, and no other unit and no drop
of another unit changes. RESET, or a return from DEAD, sets the order attempts to 0 and ends the hold and
ORDER_FAILED first. Then the images of the reply are compared with the images desired now and the images sent. The
order is complete, and the unit leaves the order queue; or overtaken by a change, or refused, and the unit, where it
is queued, goes to the tail; a third refusal holds the unit, takes it out of the order queue, and raises
ORDER_FAILED with the set of the ports that differ: an entry of the list carries it, or the list is full and the
overflow flag is set. That UNIT_TAMPER carries the three defined flags alone, where R175 says the flags of the unit,
is the model's choice (log entry 30). -/
def Obligations.OrderIsCompared : Prop :=
  ∀ (l : Leg) (s : State) (tx : Transaction) (sent : Images), s.inReset = false →
    (s.leg l).tx = some tx → tx.phase = .receiving → tx.receiver ≠ .character → tx.kind = .setports →
    tx.images = some sent →
    tx.targetGone = false → classify tx.kind tx.unit tx.collected = .valid →
    let u := unitOf l tx.unit
    let x := s.unit u
    let block := ((tx.collected.map RxChar.data).drop 3).take 34
    let reply : Images := tabulate 16 (blockImage block)
    let want : Images := tabulate 16 fun port => s.desired (dropOf u port)
    let reset := block.getD 0 0 &&& 0x01 ≠ 0 ∨ x.liveness = .dead
    let attempts := if reset then 0 else x.attempts
    let held := if reset then false else x.held
    let queue := (s.leg l).orderQueue
    let removed := queue.filter (· ≠ tx.unit)
    let requeued := if tx.unit ∈ queue then removed ++ [tx.unit] else queue
    x.feeding ≠ none →
    ∃ t : State, exec (.replyQuietEnd l) s = .next t ∧ StatusApplied s t l u block ∧
      (reset → (t.unit u).held = false → AlarmEnded t .orderFailed u.val) ∧
      (reply = want →
        (t.unit u).attempts = 0 ∧ (t.unit u).held = held ∧ (t.leg l).orderQueue = removed) ∧
      (reply ≠ want → sent ≠ want →
        (t.unit u).attempts = attempts ∧ (t.unit u).held = held ∧ (t.leg l).orderQueue = requeued) ∧
      (reply ≠ want → sent = want → attempts < 2 →
        (t.unit u).attempts = attempts + 1 ∧ (t.unit u).held = held ∧
          (t.leg l).orderQueue = requeued) ∧
      (reply ≠ want → sent = want → 2 ≤ attempts →
        (t.unit u).attempts = 3 ∧ (t.unit u).held = true ∧ (t.leg l).orderQueue = removed ∧
          ∃ differ : BitVec 16,
            (∀ port : TapPort,
              differ.getLsbD port.val = decide (look reply port ≠ look want port)) ∧
            AlarmListed t .orderFailed u.val differ ∧ AlarmBegun s t .orderFailed u.val differ)

/-! ## The plant map -/

/-- R90 to R92, R98 to R100 and R103, with R65 and R75: SET_UNIT installs a unit, moves it, or uninstalls it. An
installed unit counts at every place of its path, a moved one is taken with its dead count from the old path and
added to the new, and an uninstalled one is taken from its path; the outage alarms and NODE_POWER follow each time.
An uninstalled unit leaves both queues and every field of its entry, and its own alarms end; promotion mode turns
off where the due-poll queue falls from three units to two thereby (R75), and a transaction in flight to it is
marked, so that its outcome is counted and not applied (R65); nothing else of its leg changes. That the mark stays
on the transaction when the unit is installed again is the model's reading (log entry 21). -/
def Obligations.UnitsAreInstalledMovedAndUninstalled : Prop :=
  ∀ (p : Port) (tag unit installed feeding : Byte) (s : State),
    Serving s p Row.setUnit tag [unit, installed, feeding] →
    let reply := fun r : Result => exec (.setUnit p) s = .next (s.answered p tag r [])
    (127 < unit.toNat ∨ (installed ≠ 0 ∧ 64 < feeding.toNat) → reply .badArgument) ∧
    ∀ u : UnitNo, unit = byte u.val →
      let x := s.unit u
      let l := UnitNo.leg u
      let g := s.leg l
      (∀ n : NodeNo, installed ≠ 0 → feeding = byte n.val →
        ((s.node n).place.map NodePlace.leg ≠ some l → reply .badArgument)) ∧
      (∀ f : Feed, installed ≠ 0 → feeding = byte f.code →
        (∀ n, f = .node n → (s.node n).place.map NodePlace.leg = some l) →
        (x.feeding = some f → reply .ok) ∧
        (x.feeding = none → (s.pathFrom f).Nodup →
          ∃ t : State, exec (.setUnit p) s = .next (t.answered p tag .ok []) ∧ Calm s t ∧
            t.unit u = { UnitEntry.uninstalled with feeding := some f } ∧
            (∀ v : UnitNo, v ≠ u → t.unit v = s.unit v) ∧
            (t.root l).units = (s.root l).units + 1 ∧ (t.root l).dead = (s.root l).dead ∧
            (∀ n : NodeNo,
              (t.node n).place = (s.node n).place ∧ (t.node n).tally.dead = (s.node n).tally.dead ∧
                (t.node n).tally.units =
                  (s.node n).tally.units + if n ∈ s.pathFrom f then 1 else 0) ∧
            CountsMove s t [] [] (s.pathFrom f) [l] 1 0 ∧ OutagesFollow s t ∧ PowerFollows s t l f ∧
            t.legs = s.legs ∧ t.table.subs = s.table.subs) ∧
        (∀ old, x.feeding = some old → old ≠ f →
          ∃ t : State, exec (.setUnit p) s = .next (t.answered p tag .ok []) ∧ Calm s t ∧
            t.unit u = { x with feeding := some f } ∧
            (∀ v : UnitNo, v ≠ u → t.unit v = s.unit v) ∧ t.legs = s.legs ∧
            t.table.subs = s.table.subs ∧
            ((s.pathFrom old).Nodup → (s.pathFrom f).Nodup →
              CountsMove s t (s.pathFrom old) [l] (s.pathFrom f) [l] 1
                (if x.liveness = .dead then 1 else 0)) ∧
            OutagesFollow s t ∧ PowerFollows s t l old ∧ PowerFollows s t l f)) ∧
      (installed = 0 → x.feeding = none → reply .ok) ∧
      (installed = 0 → x.feeding ≠ none →
        (∃ d : Drop, Drop.unit d = u ∧ (s.sub d).state ≠ .vacant) → reply .wrongState) ∧
      (installed = 0 → x.feeding ≠ none →
        (∀ d : Drop, Drop.unit d = u → (s.sub d).state = .vacant) →
        ∃ t : State, exec (.setUnit p) s = .next (t.answered p tag .ok []) ∧ Calm s t ∧
          t.unit u = UnitEntry.uninstalled ∧ (∀ v : UnitNo, v ≠ u → t.unit v = s.unit v) ∧
          t.leg l =
            { g with
              dueQueue := g.dueQueue.filter (· ≠ UnitNo.onLeg u)
              orderQueue := g.orderQueue.filter (· ≠ UnitNo.onLeg u)
              promotion :=
                if UnitNo.onLeg u ∈ g.dueQueue ∧ g.dueQueue.length = 3 then false else g.promotion
              tx := g.tx.map fun tx =>
                if tx.unit = UnitNo.onLeg u then { tx with targetGone := true } else tx } ∧
          (∀ k : Leg, k ≠ l → t.leg k = s.leg k) ∧
          (t.root l).units = (s.root l).units - 1 ∧
          AlarmEnded t .unitDead u.val ∧ AlarmEnded t .unitTamper u.val ∧
          AlarmEnded t .orderFailed u.val ∧ t.table.subs = s.table.subs ∧
          OutagesFollow s t ∧
          ∀ f, x.feeding = some f →
            ((s.pathFrom f).Nodup →
              CountsMove s t (s.pathFrom f) [l] [] [] 1 (if x.liveness = .dead then 1 else 0)) ∧
            (x.powerAlarm = true → PowerFollows s t l f) ∧
            (x.powerAlarm = false →
              ∀ (k : Leg) (e : Feed), powerStateOf t k e = powerStateOf s k e))

/-- R97 to R100: SET_NODE installs a node with counts 0, leaves a node that stands where it is asked to stand,
moves a node with the counts of its subtree from the old path to the new, the outage alarms following, and
uninstalls a node with nothing below it. It is refused for its arguments, for a parent on another leg, for a
loop, for a place that would put the node or any node of its subtree below depth 8, and for a node in use. -/
def Obligations.NodesAreInstalledMovedAndUninstalled : Prop :=
  ∀ (p : Port) (tag node installed leg parent : Byte) (s : State),
    Serving s p Row.setNode tag [node, installed, leg, parent] →
    let reply := fun r : Result => exec (.setNode p) s = .next (s.answered p tag r [])
    (63 < node.toNat ∨ (installed ≠ 0 ∧ (3 < leg.toNat ∨ 64 < parent.toNat)) →
      reply .badArgument) ∧
    ∀ n : NodeNo, node = byte n.val →
      let inUse :=
        (∃ m : NodeNo, (s.node m).place.map NodePlace.parent = some (.node n)) ∨
          ∃ u : UnitNo, (s.unit u).feeding = some (.node n)
      (∀ (l : Leg) (f : Feed), installed ≠ 0 → leg = byte l.val → parent = byte f.code →
        let onLeg := ∀ m, f = .node m → (s.node m).place.map NodePlace.leg = some l
        let depth := (s.pathFrom f).length + 1
        let deep :=
          8 < depth ∨
            ∃ m : NodeNo, (s.node m).place ≠ none ∧ n ∈ s.pathFrom (.node m) ∧
              8 < depth + (s.pathFrom (.node m)).idxOf n
        (¬onLeg ∨ n ∈ s.pathFrom f ∨ deep → reply .badArgument) ∧
        (onLeg → n ∉ s.pathFrom f → ¬deep →
          ((s.node n).place = none →
            exec (.setNode p) s =
              .next
                ((s.setNode n
                    { place := some { leg := l, parent := f }
                      tally := { units := 0, dead := 0, out := false, onPowerAlarm := false } }).answered
                  p tag .ok [])) ∧
          ∀ old, (s.node n).place = some old →
            (old.leg ≠ l → inUse → reply .wrongState) ∧
            (old = { leg := l, parent := f } → reply .ok) ∧
            (old ≠ { leg := l, parent := f } → (old.leg = l ∨ ¬inUse) →
              ∃ t : State, exec (.setNode p) s = .next (t.answered p tag .ok []) ∧ Calm s t ∧
                (t.node n).place = some { leg := l, parent := f } ∧
                (∀ m : NodeNo, m ≠ n → (t.node m).place = (s.node m).place) ∧
                t.table.units = s.table.units ∧ t.table.subs = s.table.subs ∧ t.legs = s.legs ∧
                ((s.pathFrom old.parent).Nodup → (s.pathFrom f).Nodup →
                  CountsMove s t (s.pathFrom old.parent) [old.leg] (s.pathFrom f) [l]
                    (s.node n).tally.units (s.node n).tally.dead) ∧
                OutagesFollow s t))) ∧
      (installed = 0 → (s.node n).place = none → reply .ok) ∧
      (installed = 0 → (s.node n).place ≠ none → inUse → reply .wrongState) ∧
      (installed = 0 → (s.node n).place ≠ none → ¬inUse →
        exec (.setNode p) s =
          .next
            ((((s.setNode n NodeEntry.uninstalled).clear .nodeOutage n.val).clear .nodePower
              n.val).answered p tag .ok []))

/-- R16, R71, R88 and R105: READ_SUBSCRIBER, READ_LEG, READ_UNIT and READ_NODE return their records field by
field and change nothing else; an argument that names nothing is refused BAD_ARGUMENT. Where the rules leave
an encoding open the bytes follow log entry 9, among them the purpose of a transaction as 0, 1 or 2, the noise
filter and promotion mode of a leg as 01 hex for on and 00 hex for off, and the minute counts of a subscriber as all
service, then all credited, then all unjudged counts. That a unit
whose old order is still in flight after it was uninstalled, installed again and queued again shows as not in
flight, in READ_LEG and in READ_UNIT, is the model's reading (log entry 21). -/
def Obligations.PlantAndSubscribersAreRead : Prop :=
  (∀ (p : Port) (tag : Byte) (s : State),
    (∀ v : Nat, 2047 < v → v < 65536 → Asked s p Row.readSubscriber tag (beBytes 2 v) →
      exec (.readSubscriber p) s = .next (s.answered p tag .badArgument [])) ∧
    (∀ b : Byte,
      (3 < b.toNat → Asked s p Row.readLeg tag [b] →
        exec (.readLeg p) s = .next (s.answered p tag .badArgument [])) ∧
      (127 < b.toNat → Asked s p Row.readUnit tag [b] →
        exec (.readUnit p) s = .next (s.answered p tag .badArgument [])) ∧
      (67 < b.toNat → Asked s p Row.readNode tag [b] →
        exec (.readNode p) s = .next (s.answered p tag .badArgument [])))) ∧
  (∀ (p : Port) (tag : Byte) (d : Drop) (s : State),
    Asked s p Row.readSubscriber tag (beBytes 2 d.val) →
    let x := s.sub d
    let u := Drop.unit d
    let counts := fun c : Vector Nat 8 => (List.finRange 8).flatMap fun t => beBytes 4 (look c t)
    exec (.readSubscriber p) s =
      .next
        (s.answered p tag .ok
          ([byte x.state.code] ++ optBytes 5 (x.account.map BitVec.toNat) ++
            optBytes 1 (x.tiers.map BitVec.toNat) ++ beBytes 2 x.cycle.toNat ++
            optBytes 4 x.seg.start ++ [byte x.seg.kind.code, x.seg.tiers] ++ counts x.service ++
            counts x.credited ++ counts x.unjudged ++ yesNo x.saturated ++
            (byte x.charges.length ::
              x.charges.flatMap fun c => c.code :: beBytes 3 c.amount.toNat) ++
            [if (s.desired d).on then 0x80 else 0, (s.desired d).pass] ++
            (match (s.unit u).images with
             | some im =>
               [1, if (look im (Drop.port d)).on then 0x80 else 0, (look im (Drop.port d)).pass]
             | none => [0, 0, 0]) ++
            [x.seg.tiers] ++
            yesNo (decide (UnitNo.onLeg u ∈ (s.leg (UnitNo.leg u)).orderQueue)) ++
            yesNo (s.unit u).held ++ [byte (s.unit u).attempts]))) ∧
  (∀ (p : Port) (tag : Byte) (l : Leg) (s : State), Asked s p Row.readLeg tag [byte l.val] →
    let g := s.leg l
    let m := s.legSettings l
    let c := g.counters
    exec (.readLeg p) s =
      .next
        (s.answered p tag .ok
          ([byte m.rate.code] ++ yesNo m.filter ++ [byte m.blanking, byte m.window] ++
            beBytes 2 m.tick ++ [byte m.missLimit, byte m.warning, byte (s.run l).code] ++
            (match g.tx with
             | some t =>
               [1, byte t.kind.code, byte t.unit.val, byte t.purpose.code, byte t.phase.code]
             | none => [0, 0, 0, 0, 0]) ++
            optBytes 2 g.lastLatency ++
            ([c.pollsSent, c.ordersSent, c.directSent, c.validReplies, c.silent, c.framing, c.parity,
                c.truncated, c.length, c.crc, c.overrun, c.wrongPartner, c.promotions,
                c.skippedPolls].flatMap fun n => beBytes 4 n.toNat) ++
            [byte g.lineErrors] ++
            (byte g.dueQueue.length :: g.dueQueue.map fun u => byte u.val) ++
            (byte g.orderQueue.length ::
              g.orderQueue.map fun u =>
                byte u.val |||
                  (match g.tx with
                   | some t =>
                     if t.purpose = .order ∧ t.unit = u ∧ t.targetGone = false then 0x40 else 0
                   | none => 0) |||
                  if s.isDead (unitOf l u) then 0x80 else 0) ++
            yesNo g.promotion ++ [byte g.pointer.val] ++
            (match g.direct with
             | .empty => [0]
             | .submitted j => [1, byte j.owner.val, byte j.kind.code, byte j.unit.val]
             | .inFlight j => [2, byte j.owner.val, byte j.kind.code, byte j.unit.val]
             | .done j _ => [3, byte j.owner.val, byte j.kind.code, byte j.unit.val])))) ∧
  (∀ (p : Port) (tag : Byte) (u : UnitNo) (s : State), Asked s p Row.readUnit tag [byte u.val] →
    let x := s.unit u
    let g := s.leg (UnitNo.leg u)
    let k := UnitNo.onLeg u
    exec (.readUnit p) s =
      .next
        (s.answered p tag .ok
          ((match x.feeding with
            | some f => [1, byte f.code]
            | none => [0, 0xFF]) ++
            [byte x.liveness.code, byte x.misses] ++ optBytes 4 x.firstMiss ++
            optBytes 4 x.outageBegan ++
            (match x.images with
             | some im =>
               1 ::
                 (List.finRange 16).flatMap fun port =>
                   [if (look im port).on then 0x80 else 0, (look im port).pass]
             | none => List.replicate 33 0) ++
            [byte x.attempts] ++ yesNo x.held ++ [x.flags] ++ optBytes 1 x.supply ++
            yesNo x.powerAlarm ++ yesNo (decide (k ∈ g.dueQueue)) ++
            yesNo (decide (k ∈ g.orderQueue)) ++
            yesNo
              (match g.tx with
               | some t => decide (t.purpose = .order ∧ t.unit = k ∧ t.targetGone = false)
               | none => false) ++
            yesNo (decide (x.flags &&& 0x02 ≠ 0))))) ∧
  ∀ (p : Port) (tag : Byte) (s : State),
    let below := fun (l : Leg) (f : Feed) =>
      let nodes := (List.finRange 64).filter fun m =>
        decide ((s.node m).place = some { leg := l, parent := f })
      let units := (List.finRange 128).filter fun u =>
        decide (UnitNo.leg u = l ∧ (s.unit u).feeding = some f)
      (byte nodes.length :: nodes.map fun m => byte m.val) ++
        (byte units.length :: units.map fun u => byte u.val)
    (∀ n : NodeNo, Asked s p Row.readNode tag [byte n.val] →
      let x := (s.node n).tally
      exec (.readNode p) s =
        .next
          (s.answered p tag .ok
            (match (s.node n).place with
             | some place =>
               [1, byte place.leg.val, byte place.parent.code, byte x.units, byte x.dead] ++
                 yesNo x.out ++ yesNo x.onPowerAlarm ++ [byte (s.depth n)] ++
                 below place.leg (.node n)
             | none =>
               [0, 0xFF, 0xFF, byte x.units, byte x.dead] ++ yesNo x.out ++ yesNo x.onPowerAlarm ++
                 [0, 0, 0]))) ∧
    ∀ l : Leg, Asked s p Row.readNode tag [byte (64 + l.val)] →
      let x := s.root l
      exec (.readNode p) s =
        .next
          (s.answered p tag .ok
            ([1, byte l.val, 0xFF, byte x.units, byte x.dead] ++ yesNo x.out ++
              yesNo x.onPowerAlarm ++ [0] ++ below l .root))

/-! ## The Alarm List -/

/-- R110 to R112 and R115: what a raise does to an entry with its key, where it has none, and where the list is
full; each change raises the change number by one and sets ALARM attention on every attached port. -/
def Obligations.AlarmRaiseActsByTheRules : Prop :=
  ∀ (k : AlarmKind) (o : Nat) (info : BitVec 16) (s : State),
    let a := s.alarms
    let es := a.entries
    let t := s.raise k o info
    let told :=
      t.alarms.change = a.change + 1 ∧
        ∀ q : Port,
          t.port q =
            if (s.port q).phase = .detached then s.port q
            else { s.port q with flags := (s.port q).flags ||| 0x01 }
    let new : AlarmEntry :=
      { kind := k, object := o, raised := s.clock.minute, cleared := none, state := .activeUnacked
        info := info, bounce := 0 }
    (∀ (i : Nat) (e : AlarmEntry), (es.map fun e => (e.kind, e.object)).Nodup → es[i]? = some e →
      e.kind = k → e.object = o →
      let f : AlarmEntry :=
        match e.state with
        | .clearedUnacked =>
          { e with
            state := .activeUnacked, bounce := min 255 (e.bounce + 1), raised := s.clock.minute
            cleared := none, info := info }
        | .activeUnacked => { e with info := info }
        | .activeAcked => { e with info := info }
      t.alarms.entries = es.set i f ∧ t.alarms.unlisted = a.unlisted ∧
        t.alarms.overflow = a.overflow ∧ (f = e → t = s) ∧ (f ≠ e → told)) ∧
    ((∀ e ∈ es, ¬(e.kind = k ∧ e.object = o)) →
      (es.length < 64 →
        t.alarms.entries = es ++ [new] ∧ t.alarms.unlisted = a.unlisted ∧
          t.alarms.overflow = a.overflow ∧ told) ∧
      (64 ≤ es.length →
        (∀ (i : Nat) (e : AlarmEntry), es[i]? = some e → e.state = .clearedUnacked →
          (∀ f ∈ es.take i, f.state ≠ .clearedUnacked) →
          t.alarms.entries = es.eraseIdx i ++ [new] ∧ t.alarms.unlisted = a.unlisted ∧
            t.alarms.overflow = a.overflow ∧ told) ∧
        ((∀ e ∈ es, e.state ≠ .clearedUnacked) →
          (∀ (i : Nat) (e : AlarmEntry), es[i]? = some e → e.state = .activeAcked →
            e.kind.rank < k.rank →
            (∀ f ∈ es.take i, ¬(f.state = .activeAcked ∧ f.kind.rank < k.rank)) →
            t.alarms.entries = es.eraseIdx i ++ [new] ∧ t.alarms.unlisted = a.unlisted ∧
              t.alarms.overflow = a.overflow ∧ told) ∧
          ((∀ e ∈ es, ¬(e.state = .activeAcked ∧ e.kind.rank < k.rank)) →
            t.alarms.entries = es ∧ t.alarms.unlisted = min 65535 (a.unlisted + 1) ∧
              t.alarms.overflow = true ∧ (a.unlisted < 65535 → told)))))

/-- R113 and R114: what a clear does to the entry with its key, by its state; and what ACK_ALARM refuses and
does. The two bytes of the ACK_ALARM reply (a presence byte and the state) follow log entry 9, and that an entry
made ACTIVE_ACKED is no change of the list, while one removed is, follows log entry 15. -/
def Obligations.AlarmIsClearedAndAcknowledged : Prop :=
  ∀ s : State, (s.alarms.entries.map fun e => (e.kind, e.object)).Nodup →
    let a := s.alarms
    let es := a.entries
    let told := fun t : State =>
      t.alarms.change = a.change + 1 ∧ t.alarms.unlisted = a.unlisted ∧
        t.alarms.overflow = a.overflow ∧
        ∀ q : Port,
          t.port q =
            if (s.port q).phase = .detached then s.port q
            else { s.port q with flags := (s.port q).flags ||| 0x01 }
    (∀ (k : AlarmKind) (o : Nat),
      let t := s.clear k o
      ((∀ e ∈ es, ¬(e.kind = k ∧ e.object = o)) → t = s) ∧
      ∀ (i : Nat) (e : AlarmEntry), es[i]? = some e → e.kind = k → e.object = o →
        (e.state = .activeUnacked →
          t.alarms.entries = es.set i { e with state := .clearedUnacked, cleared := s.clock.minute } ∧
            told t) ∧
        (e.state = .activeAcked → t.alarms.entries = es.eraseIdx i ∧ told t) ∧
        (e.state = .clearedUnacked → t = s)) ∧
    ∀ (p : Port) (tag kind high low : Byte),
      (Asked s p Row.ackAlarm tag [kind, high, low] → (s.port p).role = .billing →
        exec (.ackAlarm p) s = .next (s.answered p tag .notPermitted [])) ∧
      (Serving s p Row.ackAlarm tag [kind, high, low] →
        let o := high.toNat * 256 + low.toNat
        (15 < kind.toNat → exec (.ackAlarm p) s = .next (s.answered p tag .badArgument [])) ∧
        ∀ k : AlarmKind, kind = byte k.code →
          (k.objects ≤ o ∨ (∀ e ∈ es, ¬(e.kind = k ∧ e.object = o)) →
            exec (.ackAlarm p) s = .next (s.answered p tag .badArgument [])) ∧
          ∀ (i : Nat) (e : AlarmEntry), o < k.objects → es[i]? = some e → e.kind = k →
            e.object = o →
            (e.state = .activeAcked →
              exec (.ackAlarm p) s = .next (s.answered p tag .ok [1, 1])) ∧
            (e.state = .activeUnacked →
              exec (.ackAlarm p) s =
                .next
                  ({ s with
                      alarms := { a with entries := es.set i { e with state := .activeAcked } } }.answered
                    p tag .ok [1, 1])) ∧
            (e.state = .clearedUnacked →
              ∃ t : State, exec (.ackAlarm p) s = .next (t.answered p tag .ok [0, 0]) ∧
                t.alarms.entries = es.eraseIdx i ∧ told t ∧
                t = { s with alarms := t.alarms, ports := t.ports }))

/-- R116: READ_ALARMS returns the count, the change number, the unlisted count, the overflow flag and up to 12
entries from the position asked for, and with clear-overflow clears the overflow flag; nothing else changes. That
the byte of the overflow flag is 01 hex for set and 00 hex for clear is the model's choice (log entry 9). -/
def Obligations.AlarmsAreReadByPages : Prop :=
  ∀ (p : Port) (tag first clear : Byte) (s : State), Asked s p Row.readAlarms tag [first, clear] →
    (63 < first.toNat → exec (.readAlarms p) s = .next (s.answered p tag .badArgument [])) ∧
    (first.toNat ≤ 63 →
      exec (.readAlarms p) s =
        .next
          ((if clear = 0 then s
            else { s with alarms := { s.alarms with overflow := false } }).answered p tag .ok
            ([byte s.alarms.entries.length] ++ beBytes 2 s.alarms.change.toNat ++
              beBytes 2 s.alarms.unlisted ++ yesNo s.alarms.overflow ++
              ((s.alarms.entries.drop first.toNat).take 12).flatMap fun e =>
                [byte e.kind.code] ++ beBytes 2 e.object ++ [byte e.kind.severityCode] ++
                  optBytes 4 e.raised ++ optBytes 4 e.cleared ++ [byte e.state.code] ++
                  beBytes 2 e.info.toNat ++ [byte e.bounce])))

/-! ## Subscribers -/

/-- R3 and R5 to R8 and R11, with R121, R123, R135 and R136: PROVISION, SET_TIERS, SUSPEND, RESUME and VACATE,
their refusals in order, the record they leave, the minutes they add and the change path they run, with the
EARLY CYCLE record of a lagging drop. That a SET_TIERS with the set the record holds makes the catch-up close of a
lagging drop too is the model's reading (log entry 20). -/
def Obligations.SubscriberRecordsAreChanged : Prop :=
  let minutes := fun (s t : State) (d : Drop) =>
    ∀ x : Subscriber, FoldBase s d x → MinutesFollow s t d x
  (∀ (p : Port) (tag : Byte) (d : Drop) (account : List Byte) (tiers : Byte) (s : State),
    Serving s p Row.provision tag (beBytes 2 d.val ++ account ++ [tiers]) →
    let reply := fun r : Result => exec (.provision p) s = .next (s.answered p tag r [])
    let digits := isBcd 10 (beNat account) = true
    let x := s.sub d
    let u := Drop.unit d
    (¬digits → reply .badDigit) ∧ (digits → tiers = 0 → reply .badArgument) ∧
    (digits → tiers ≠ 0 → (x.state ≠ .vacant ∨ (s.unit u).feeding = none) → reply .wrongState) ∧
    (digits → tiers ≠ 0 → x.state = .vacant → (s.unit u).feeding ≠ none →
      ∃ t : State, exec (.provision p) s = .next (t.answered p tag .ok []) ∧ ChangePath s t d ∧
        (t.sub d).state = .active ∧ (t.sub d).account = some (BitVec.ofNat 40 (beNat account)) ∧
        (t.sub d).tiers = some tiers ∧ (t.sub d).charges = [] ∧ (t.sub d).saturated = false ∧
        (∀ tier : Tier,
          look (t.sub d).service tier = 0 ∧ look (t.sub d).credited tier = 0 ∧
            look (t.sub d).unjudged tier = 0) ∧
        (t.sub d).seg.start = s.clock.minute ∧ t.subscriberCount = s.subscriberCount + 1)) ∧
  (∀ (p : Port) (tag : Byte) (d : Drop) (tiers : Byte) (s : State),
    Serving s p Row.setTiers tag (beBytes 2 d.val ++ [tiers]) →
    let reply := fun r : Result => exec (.setTiers p) s = .next (s.answered p tag r [])
    let x := s.sub d
    let taken := x.state = .active ∨ x.state = .suspended
    (tiers = 0 → reply .badArgument) ∧ (tiers ≠ 0 → ¬taken → reply .wrongState) ∧
    (tiers ≠ 0 → taken →
      ∃ t : State, exec (.setTiers p) s = .next (t.answered p tag .ok []) ∧ ChangePath s t d ∧
        (t.sub d).state = x.state ∧ (t.sub d).account = x.account ∧ (t.sub d).tiers = some tiers ∧
        (x.cycle = s.table.cycleNumber → (t.sub d).charges = x.charges) ∧ minutes s t d ∧
        t.subscriberCount = s.subscriberCount)) ∧
  ∀ (p : Port) (tag : Byte) (d : Drop) (s : State),
    ∀ e ∈
      ([(.suspend p, Row.suspend, .active, .suspended), (.resume p, Row.resume, .suspended, .active),
        (.vacate p, Row.vacate, .disconnected, .vacant)] :
        List (Instr × Row × SubState × SubState)),
      Serving s p e.2.1 tag (beBytes 2 d.val) →
      let x := s.sub d
      (x.state ≠ e.2.2.1 → exec e.1 s = .next (s.answered p tag .wrongState [])) ∧
      (x.state = e.2.2.1 →
        ∃ t : State, exec e.1 s = .next (t.answered p tag .ok []) ∧ ChangePath s t d ∧
          (t.sub d).state = e.2.2.2 ∧
          (t.sub d).account = (if e.2.2.2 = .vacant then none else x.account) ∧
          (t.sub d).tiers = (if e.2.2.2 = .vacant then none else x.tiers) ∧
          (x.cycle = s.table.cycleNumber → (t.sub d).charges = x.charges) ∧ minutes s t d ∧
          t.subscriberCount = s.subscriberCount)

/-- R9, R10, R12, R13, R136 and R138, with R5 and R15: DISCONNECT closes the account with a FINAL record that
holds the folded and judged accounts, keeps account and tiers, and runs the change path: the unit's hold is
cleared and ORDER_FAILED ended where the desired image changed, and the unit is queued where an image differs.
ADD_CHARGE appends a charge, a lagging drop caught up first with an EARLY CYCLE record, and the unit is
evaluated for its order queue; REISSUE clears a unit's hold and puts it in its order queue. Their refusals in
order. That a charge recomputes nothing on a drop that a sweep has not reached is the model's reading (log entry
13). -/
def Obligations.AccountsAreClosedChargedAndOrdersReissued : Prop :=
  (∀ (p : Port) (tag : Byte) (d : Drop) (s : State),
    Serving s p Row.disconnect tag (beBytes 2 d.val) →
    let reply := fun r : Result => exec (.disconnect p) s = .next (s.answered p tag r [])
    let x := s.sub d
    let j := s.table.journal
    let taken := x.state = .active ∨ x.state = .suspended
    (¬taken → reply .wrongState) ∧ (taken → s.clock.minute = none → reply .clockNotSet) ∧
    (taken → s.clock.minute ≠ none → s.margin = 0 → reply .journalSpace) ∧
    (∀ now, taken → s.clock.minute = some now → 1 ≤ s.margin →
      ∃ t : State,
        exec (.disconnect p) s =
          .next (t.answered p tag .ok (beBytes 4 (t.table.journal.written - 1).toNat)) ∧
        Calm s t ∧ (t.sub d).state = .disconnected ∧ (t.sub d).account = x.account ∧
        (t.sub d).tiers = x.tiers ∧ (t.sub d).charges = [] ∧ (t.sub d).saturated = false ∧
        (∀ tier : Tier,
          look (t.sub d).service tier = 0 ∧ look (t.sub d).credited tier = 0 ∧
            look (t.sub d).unjudged tier = 0) ∧
        (t.sub d).seg = { start := some now, kind := .none, tiers := 0 } ∧
        (∀ e : Drop, e ≠ d → t.sub e = s.sub e) ∧ t.subscriberCount = s.subscriberCount - 1 ∧
        t.table.journal.written =
          j.written + (if x.cycle = s.table.cycleNumber then 1 else 2) ∧
        t.table.journal.released = j.released ∧
        (look t.table.journal.slots (journalSlot (t.table.journal.written - 1))).take 5 =
          beBytes 4 (t.table.journal.written - 1).toNat ++ [0x02] ∧
        (∀ base : Subscriber, FoldBase s d base →
          FinalRecorded s t d base now (t.table.journal.written - 1)) ∧
        (x.cycle ≠ s.table.cycleNumber → CountersInRange x →
          CycleRecorded s t d x true j.written) ∧
        OrdersFollow s t d ∧
        ∀ q : Port, (s.port q).phase ≠ .detached → (s.port q).role = .billing →
          (t.port q).flags &&& 0x20 = 0x20)) ∧
  (∀ (p : Port) (tag code : Byte) (d : Drop) (amount : List Byte) (s : State),
    Serving s p Row.addCharge tag (beBytes 2 d.val ++ [code] ++ amount) →
    let reply := fun r : Result => exec (.addCharge p) s = .next (s.answered p tag r [])
    let digits := isBcd 6 (beNat amount) = true
    let x := s.sub d
    let taken := x.state = .active ∨ x.state = .suspended
    let lagging := x.cycle ≠ s.table.cycleNumber
    let charge : Charge := { code := code, amount := BitVec.ofNat 24 (beNat amount) }
    (¬digits → reply .badDigit) ∧ (digits → ¬taken → reply .wrongState) ∧
    (digits → taken → ¬lagging → 4 ≤ x.charges.length → reply .listFull) ∧
    (digits → taken → ¬lagging → x.charges.length < 4 →
      ∃ t : State,
        exec (.addCharge p) s = .next (t.answered p tag .ok [byte (x.charges.length + 1)]) ∧
        t.sub d = { x with charges := x.charges ++ [charge] } ∧
        (∀ e : Drop, e ≠ d → t.sub e = s.sub e) ∧ t.alarms = s.alarms ∧
        t.table.journal = s.table.journal ∧ t.table.units = s.table.units ∧ OrdersFollow s t d ∧
        Calm s t) ∧
    (digits → taken → lagging →
      ∃ t : State, exec (.addCharge p) s = .next (t.answered p tag .ok [1]) ∧
        (t.sub d).charges = [charge] ∧ (t.sub d).cycle = s.table.cycleNumber ∧
        t.table.journal.written = s.table.journal.written + 1 ∧
        (CountersInRange x → CycleRecorded s t d x true s.table.journal.written) ∧
        (∀ e : Drop, e ≠ d → t.sub e = s.sub e) ∧ t.table.units = s.table.units ∧
        OrdersFollow s t d ∧ Calm s t)) ∧
  ∀ (p : Port) (tag unit : Byte) (s : State), Serving s p Row.reissue tag [unit] →
    (127 < unit.toNat → exec (.reissue p) s = .next (s.answered p tag .badArgument [])) ∧
    ∀ u : UnitNo, unit = byte u.val →
      let l := UnitNo.leg u
      let k := UnitNo.onLeg u
      ((s.unit u).feeding = none → exec (.reissue p) s = .next (s.answered p tag .wrongState [])) ∧
      ((s.unit u).feeding ≠ none →
        ∃ t : State, exec (.reissue p) s = .next (t.answered p tag .ok []) ∧
          t.unit u = { s.unit u with attempts := 0, held := false } ∧
          (∀ v : UnitNo, v ≠ u → t.unit v = s.unit v) ∧
          (t.leg l).orderQueue =
            (if k ∈ (s.leg l).orderQueue then (s.leg l).orderQueue
             else (s.leg l).orderQueue ++ [k]) ∧
          AlarmEnded t .orderFailed u.val ∧ t.table.subs = s.table.subs ∧ Calm s t)

/-! ## Billing -/

/-- R132 to R137: START_CLOSE, its refusals in order and the close it opens; and the walk's visit, which leaves
a drop that is not lagging alone, moves a VACANT or DISCONNECTED one to the cycle, makes the catch-up close of
an ACTIVE or SUSPENDED one with its CYCLE record, whose content is the accounts folded and judged at the stamp,
and ends the close after drop 2047. The space condition is evaluated again when START_CLOSE has set the reservation
(R133) and when a record is written, with one slot fewer reserved (R146): JOURNAL_SPACE is raised with the margin
where the condition begins and ends where it ends, and where it stays the alarm is left as it stands (R150). The
bytes of the START_CLOSE reply's minute (log entry 9), and that a visit with no walk under way changes nothing (log
entry 6), are the model's choice. -/
def Obligations.CloseIsStartedAndWalked : Prop :=
  (∀ (p : Port) (tag : Byte) (s : State), Serving s p Row.startClose tag [] →
    let reply := fun r : Result => exec (.startClose p) s = .next (s.answered p tag r [])
    let w := s.table.close.walking = true
    (w → reply .busy) ∧ (¬w → s.clock.minute = none → reply .clockNotSet) ∧
    ∀ m c, ¬w → s.clock.minute = some m → s.table.cycleStart = some c →
      (m ≤ c → reply .cycleEmpty) ∧
      (c < m → s.margin < s.subscriberCount → reply .journalSpace) ∧
      (c < m → s.subscriberCount ≤ s.margin →
        ∃ t : State,
          exec (.startClose p) s =
            .next
              (t.answered p tag .started
                (beBytes 2 s.table.cycleNumber.toNat ++ beBytes 4 m ++
                  beBytes 2 s.subscriberCount)) ∧
          t.table =
            { s.table with
              cycleNumber := s.table.cycleNumber + 1
              cycleStart := some m
              close :=
                { walking := true, closingCycle := s.table.cycleNumber, closingStart := some c
                  stamp := some m, reserved := s.subscriberCount, position := 0
                  requester := some p } } ∧
          t.spaceLow = decide (t.margin < s.table.journal.threshold) ∧
          (s.spaceLow = false → t.spaceLow = true →
            AlarmBegun s t .journalSpace 0 (BitVec.ofNat 16 t.margin)) ∧
          (s.spaceLow = true → t.spaceLow = false → AlarmEnded t .journalSpace 0) ∧
          (t.spaceLow = s.spaceLow →
            ∀ e : AlarmEntry, e.kind ≠ .cycleOverdue →
              (e ∈ t.alarms.entries ↔ e ∈ s.alarms.entries)) ∧
          AlarmEnded t .cycleOverdue 0 ∧ Calm s t)) ∧
  ∀ s : State, s.inReset = false →
    (s.table.close.walking = false ∨ s.power ≠ .normal → exec .walkVisit s = .next s) ∧
    (s.table.close.walking = true → s.power = .normal →
      let d := s.table.close.position
      let x := s.sub d
      let counts := x.state = .active ∨ x.state = .suspended
      let lagging := x.cycle ≠ s.table.cycleNumber
      ∃ t : State, exec .walkVisit s = .next t ∧ Calm s t ∧
        (∀ e : Drop, e ≠ d → t.sub e = s.sub e) ∧ t.table.cycleNumber = s.table.cycleNumber ∧
        (¬lagging → t.sub d = x) ∧
        (lagging → ¬counts → t.sub d = { x with cycle := s.table.cycleNumber }) ∧
        (¬lagging ∨ ¬counts →
          t.table.journal = s.table.journal ∧ t.spaceLow = s.spaceLow ∧ t.alarms = s.alarms) ∧
        (lagging → counts →
          let margin :=
            4096 - (s.table.journal.written + 1 - s.table.journal.released).toNat -
              (s.table.close.reserved - 1)
          t.spaceLow = decide (margin < s.table.journal.threshold) ∧
            (s.spaceLow = false → t.spaceLow = true →
              AlarmBegun s t .journalSpace 0 (BitVec.ofNat 16 margin)) ∧
            (s.spaceLow = true → t.spaceLow = false → AlarmEnded t .journalSpace 0) ∧
            (t.spaceLow = s.spaceLow → t.alarms = s.alarms)) ∧
        (lagging → counts →
          (t.sub d).cycle = s.table.cycleNumber ∧ (t.sub d).charges = [] ∧
            (t.sub d).saturated = false ∧ (t.sub d).state = x.state ∧
            (t.sub d).seg.tiers = x.seg.tiers ∧ (t.sub d).seg.kind = x.seg.kind ∧
            (∀ tier : Tier,
              look (t.sub d).service tier = 0 ∧ look (t.sub d).credited tier = 0 ∧
                look (t.sub d).unjudged tier = 0) ∧
            t.table.journal.written = s.table.journal.written + 1 ∧
            (look t.table.journal.slots (journalSlot s.table.journal.written)).take 5 =
              beBytes 4 s.table.journal.written.toNat ++ [0x01] ∧
            (CountersInRange x → CycleRecorded s t d x false s.table.journal.written) ∧
            (d.val ≠ 2047 → t.table.close.reserved = s.table.close.reserved - 1) ∧
            ∀ q : Port, (s.port q).phase ≠ .detached → (s.port q).role = .billing →
              (t.port q).flags &&& 0x20 = 0x20) ∧
        (∀ e : Drop, e.val = d.val + 1 →
          t.table.close.position = e ∧ t.table.close.walking = true ∧
            t.table.currentRates = s.table.currentRates) ∧
        (d.val = 2047 →
          t.table.close.walking = false ∧ t.table.close.reserved = 0 ∧
            t.table.currentRates = s.table.nextRates ∧ t.table.nextRates = s.table.nextRates ∧
            (∀ q : Port, s.table.close.requester = some q → (s.port q).phase ≠ .detached →
              (t.port q).flags &&& 0x08 = 0x08) ∧
            ∀ q : Port, (s.port q).phase ≠ .detached → (s.port q).role = .billing →
              (t.port q).flags &&& 0x20 = 0x20))

/-- R128, R139 and R148 to R151: the rates, the credit threshold and the journal's threshold are stored, a held
record is read with its check, and held records are released. The space condition follows: JOURNAL_SPACE is
raised with the margin where the condition begins, and ends where it ends. And over every step the journal never
overfills (R145): held plus reserved is at most 4,096, the reservation is the number of drops that wait for their
catch-up close (R131), none of them below the position of a walk, and none with no walk under way. GOOD is coded 0
and BAD 1 (log entry 9). -/
def Obligations.BillingTablesAndJournalAreKept : Prop :=
  (∀ s t : State, RegisterSound s → JournalSound s → step s = .next t → JournalSound t) ∧
  (∀ (p : Port) (tag tier : Byte) (rate : List Byte) (s : State),
    Serving s p Row.setRate tag (tier :: rate) →
    (7 < tier.toNat → exec (.setRate p) s = .next (s.answered p tag .badArgument [])) ∧
    ∀ t : Tier, tier = byte t.val →
      (isBcd 8 (beNat rate) = false →
        exec (.setRate p) s = .next (s.answered p tag .badDigit [])) ∧
      (isBcd 8 (beNat rate) = true →
        exec (.setRate p) s =
          .next
            ({ s with
                table :=
                  { s.table with
                    nextRates := put s.table.nextRates t (BitVec.ofNat 32 (beNat rate)) } }.answered
              p tag .ok []))) ∧
  (∀ (p : Port) (tag : Byte) (n : Nat) (s : State), n < 65536 →
    (Serving s p Row.setCreditThreshold tag (beBytes 2 n) →
      exec (.setCreditThreshold p) s =
        .next
          ({ s with table := { s.table with creditThreshold := min 1440 n } }.answered p tag .ok
            (beBytes 2 (min 1440 n)))) ∧
    (Serving s p Row.setJournalThreshold tag (beBytes 2 n) →
      ∃ t : State,
        exec (.setJournalThreshold p) s =
          .next (t.answered p tag .ok (beBytes 2 (min 4096 n) ++ beBytes 2 s.margin)) ∧
        t.table =
          { s.table with journal := { s.table.journal with threshold := min 4096 n } } ∧
        t.spaceLow = decide (s.margin < min 4096 n) ∧
        (t.spaceLow = false → s.spaceLow = true → AlarmEnded t .journalSpace 0) ∧
        (t.spaceLow = true → s.spaceLow = false →
          AlarmBegun s t .journalSpace 0 (BitVec.ofNat 16 s.margin)) ∧ Calm s t)) ∧
  ∀ (p : Port) (tag : Byte) (n : Nat) (s : State), n < 4294967296 →
    let j := s.table.journal
    let q := BitVec.ofNat 32 n
    (Serving s p Row.readJournal tag (beBytes 4 n) →
      ((q - j.released).toNat < (j.written - j.released).toNat →
        let stored := look j.slots (journalSlot q)
        exec (.readJournal p) s =
          .next
            (s.answered p tag .ok
              (beBytes 4 j.written.toNat ++ beBytes 4 j.released.toNat ++
                beBytes 2 s.table.close.reserved ++
                [if crcGood stored = true ∧ beNat (stored.take 4) = n then 0 else 1] ++
                stored))) ∧
      ((j.written - j.released).toNat ≤ (q - j.released).toNat →
        exec (.readJournal p) s = .next (s.answered p tag .badArgument []))) ∧
    (Serving s p Row.releaseJournal tag (beBytes 4 n) →
      (1 ≤ (q - j.released).toNat → (q - j.released).toNat ≤ (j.written - j.released).toNat →
        let held := (j.written - q).toNat
        ∃ t : State,
          exec (.releaseJournal p) s =
            .next
              (t.answered p tag .ok
                (beBytes 4 n ++ beBytes 2 held ++ beBytes 2 (4096 - held))) ∧
          t.table = { s.table with journal := { j with released := q } } ∧
          t.spaceLow = decide (4096 - held - s.table.close.reserved < j.threshold) ∧
          (t.spaceLow = false → s.spaceLow = true → AlarmEnded t .journalSpace 0) ∧
          (t.spaceLow = true → s.spaceLow = false →
            AlarmBegun s t .journalSpace 0
              (BitVec.ofNat 16 (4096 - held - s.table.close.reserved))) ∧ Calm s t) ∧
      ((q - j.released).toNat = 0 ∨ (j.written - j.released).toNat < (q - j.released).toNat →
        exec (.releaseJournal p) s = .next (s.answered p tag .badArgument [])))

/-- R141, R142 and R174: a record's tier lines are those of the tiers with service or credited minutes, in
ascending order; a charge and a credit are the products rounded half up to the cent; the totals are the exact
sums, or ten nines of cents with OVERFLOW; a record's bytes are laid out field by field as R174 says, with
minutes and cents in packed BCD and the CRC last. -/
def Obligations.TierLinesAndTotalsAreExact : Prop :=
  (∀ (rates : Vector (BitVec 32) 8) (x : Subscriber),
    (tierLines rates x).Pairwise (fun a b => a.tier < b.tier) ∧
      ∀ line : TierLine, line ∈ tierLines rates x ↔
        ∃ t : Tier, (0 < look x.service t ∨ 0 < look x.credited t) ∧
          line =
            { tier := t, service := look x.service t, credited := look x.credited t
              rate := look rates t
              charge := (bcdValue 8 (look rates t).toNat * look x.service t + 5000) / 10000
              credit := (bcdValue 8 (look rates t).toNat * look x.credited t + 5000) / 10000 }) ∧
  (∀ (t : Tier) (r : BitVec 32) (m c : Nat), isBcd 8 r.toNat = true → m ≤ 131071 → c ≤ 131071 →
    (tierLine t r m c).charge ≤ 1310709987 ∧ (tierLine t r m c).credit ≤ 1310709987) ∧
  ∀ r : BillRecord,
    let sum :=
      (r.lines.map TierLine.charge).sum +
        (r.charges.map fun c => bcdValue 6 c.amount.toNat).sum
    let credit := (r.lines.map TierLine.credit).sum
    (sum ≤ 9999999999 → r.total = sum) ∧ (9999999999 < sum → r.total = 9999999999) ∧
      (credit ≤ 9999999999 → r.creditTotal = credit) ∧
      (9999999999 < credit → r.creditTotal = 9999999999) ∧
      (r.flags.getLsbD 0 = true ↔ 9999999999 < sum ∨ 9999999999 < credit) ∧
      (r.flags.getLsbD 1 = true ↔ r.saturated = true) ∧
      (r.flags.getLsbD 2 = true ↔ r.outageOpen = true) ∧
      (r.flags.getLsbD 3 = true ↔ r.early = true) ∧ r.flags.toNat < 16 ∧
      (∀ digits n : Nat, n < 10 ^ digits →
        isBcd digits (toBcd digits n) = true ∧ bcdValue digits (toBcd digits n) = n) ∧
      ∀ sequence : BitVec 32,
        r.bytes sequence =
          withCrc
            (beBytes 4 sequence.toNat ++ [if r.isCycle then 0x01 else 0x02, r.flags] ++
              beBytes 2 r.drop.val ++ beBytes 5 r.account.toNat ++ [byte r.state.code] ++
              beBytes 2 r.cycle.toNat ++ beBytes 4 r.periodStart ++ beBytes 4 r.periodEnd ++
              [byte r.lines.length, byte r.charges.length] ++
              (r.lines.flatMap fun line =>
                [byte line.tier.val] ++ beBytes 3 (toBcd 6 line.service) ++
                  beBytes 3 (toBcd 6 line.credited) ++ beBytes 4 line.rate.toNat ++
                  beBytes 5 (toBcd 10 line.charge) ++ beBytes 5 (toBcd 10 line.credit)) ++
              (r.charges.flatMap fun c => [c.code] ++ beBytes 3 c.amount.toNat) ++
              beBytes 5 (toBcd 10 r.total) ++ beBytes 5 (toBcd 10 r.creditTotal))

/-! ## Power, reset and starts -/

/-- R163, R176 and R179 to R181, with R129: the power-fail warning enters SHUTDOWN, abandons the transactions, folds and
judges every drop's accounts at the minute of a RUNNING clock, in ascending order, a lagging one caught up first
with its EARLY CYCLE record (R135, R136), makes the segment starts and the outage-began minutes absent; the end of
SHUTDOWN writes the record VALID with the last-known minute under its own CRC (R170), then every sector CRC, and the
mode is SAFE. Reset stops everything, and cuts the sealing short in SHUTDOWN: the record is written, or stands as it
stood; each sector CRC agrees, or stands as it was, or takes the place of one that would agree, one at least
disagrees, and all do where the record had not been written. A start leaves the sources fresh (R54) and the legs
without transaction, counts, queues, promotion mode or direct slot (R72, R89). A release with a good record and no
failing sector is a warm start that keeps the accounts and settings, derives the slots afresh, fills the matrix
queue with the assigned slots and begins with the first (R52, R55), recounts the subscribers (R18) and the units of
every place (R106), and raises MIXED_GROUP (R37); one with a failing sector is a cold start whose TABLE_CHECK names
the lowest, and one whose record fails is a cold start with TABLE_CHECK 512, the info the number of failing sectors;
it leaves every composition empty (R36), every root without units (R106), every leg STOPPED and the 48 slots queued
to the matrix (R55). A sector fails that was lost, or whose CRC is not that of what it holds; no start writes a CRC.
The model's choice: the journal slots without bytes and the INVALID record's minute 0 (log entry 10), what the
battery kept as an operand (log entries 4 and 11), sector layout, marker bytes and when the CRCs are written (log
entry 2), how far a cut sealing had come (log entry 3), no effect outside the mode (log entry 6), NORMAL at reset
(log entry 29). -/
def Obligations.PowerFailsAndTheControllerStarts : Prop :=
  (∀ s : State, s.inReset = false →
    (s.power ≠ .normal → exec .powerFailWarning s = .next s) ∧
    (s.power = .normal →
      ∃ t : State, exec .powerFailWarning s = .next t ∧ t.power = .shutdown ∧
        (∀ l : Leg, t.leg l = { s.leg l with tx := none }) ∧
        t.matrix = { s.matrix with tx := none } ∧
        t.table.record = s.table.record ∧ t.crcs = s.crcs ∧
        t.table.activation = s.table.activation ∧
        t.table.run = s.table.run ∧ t.table.close.position = s.table.close.position ∧
        t.table.close.walking = s.table.close.walking ∧ t.clock = s.clock ∧ t.locks = s.locks ∧
        SamePorts s t ∧
        (∀ u : UnitNo, t.unit u = { s.unit u with outageBegan := none }) ∧
        ClosedEarly s s t
          (if s.clock.minute = none then []
           else (List.finRange 2048).filter fun d => decide (Lagging s d)) ∧
        (s.clock.minute = none → t.table.subs = s.table.subs) ∧
        (s.clock.minute ≠ none →
          ∀ d : Drop, (t.sub d).seg.start = none ∧ (t.sub d).state = (s.sub d).state ∧
            (t.sub d).account = (s.sub d).account ∧ (t.sub d).cycle = s.table.cycleNumber ∧
            (t.sub d).seg.tiers = s.deliveredNow d) ∧
        (∀ (now : Nat) (d : Drop), s.clock.minute = some now → CountersInRange (s.sub d) →
          let u := s.unit (Drop.unit d)
          ∀ x : Subscriber, FoldBase s d x →
            Judged x (t.sub d) now u.outageBegan s.table.creditThreshold (u.liveness = .dead) ∧
              (t.sub d).charges = x.charges)) ∧
    let minute := s.clock.minute.getD s.table.lastKnown
    let written : ShutdownRecord :=
      { valid := true, minute := minute, crc := crc16 (Config.markerBytes true ++ beBytes 4 minute) }
    (s.power = .shutdown →
      ∃ t : State, exec .safeEntry s = .next t ∧
        t = { s with power := .safe, table := { s.table with record := written }, crcs := t.crcs } ∧
        ∀ k : Sector, look t.crcs k = t.table.crc k) ∧
    (s.power ≠ .shutdown → exec .safeEntry s = .next s) ∧
    (s.power ≠ .shutdown →
      exec .resetAsserted s = .next { s with inReset := true, power := .normal }) ∧
    (s.power = .shutdown →
      ∃ t : State, exec .resetAsserted s = .next t ∧ t.inReset = true ∧ t.power = .normal ∧
        t.ports = s.ports ∧ t.table.subs = s.table.subs ∧ t.locks = s.locks ∧
        (∀ k : Sector,
          look t.crcs k = t.table.crc k ∨ look t.crcs k = look s.crcs k ∨
            look s.crcs k = t.table.crc k) ∧
        (∃ k : Sector, look t.crcs k ≠ t.table.crc k) ∧
        t.table = { s.table with record := t.table.record } ∧
        (t.table.record = written ∨
          t.table.record = s.table.record ∧ ∀ k : Sector, look t.crcs k ≠ t.table.crc k))) ∧
  ∀ (straps : Vector Straps 4) (present : Vector Bool 4) (recordLost : Bool) (lost : List Sector)
    (s : State), s.inReset = true →
    let starts := fun t : State =>
      t.inReset = false ∧ t.power = .normal ∧
        t.clock = { minute := none, seconds := 0, tenths := 0, holdBack := 0 } ∧
        (∀ n : LockNo, t.lock n = { holder := none, waiters := [] }) ∧
        (∀ q : Port,
          (t.port q).role =
            (match (look straps q).firstHigh, (look straps q).secondHigh with
             | false, false => .manager
             | false, true => .billing
             | true, false => .monitor
             | true, true => .craft) ∧
            (t.port q).phase = (if look present q then .idle else .detached) ∧
            (t.port q).reply = none ∧ (t.port q).overrun = false ∧ (t.port q).mask = 0x7F) ∧
        (∀ q : Port, look present q = true → (t.port q).role = .manager →
          (t.port q).flags &&& 0x40 = 0x40) ∧
        (∀ k : Source,
          t.source k =
            { state := .normal, belowCount := 0, lastReading := none, holdOff := none, held := 0 }) ∧
        (∀ l : Leg,
          t.leg l =
            { tx := none, counters := LegCounters.zero, lineErrors := 0, lastLatency := none
              dueQueue := [], orderQueue := [], promotion := false, pointer := 31, direct := .empty
              tickInterval := if t.run l = .running then some (t.legSettings l).tick else none }) ∧
        t.spaceLow = false ∧
        ∃ e ∈ t.alarms.entries, e.kind = .clockNotSet ∧ e.object = 0 ∧ e.info = 0 ∧
          e.raised = none ∧ e.state = .activeUnacked
    let gone : List Sector := if recordLost = true then 0 :: lost else lost
    let fails := fun k : Sector => s.sectorFails gone k = true
    let good :=
      s.table.record.valid = true ∧ recordLost = false ∧
        s.table.record.crc = crc16 (Config.markerBytes true ++ beBytes 4 s.table.record.minute)
    let cold := fun object : Nat =>
      ∃ t : State, exec (.resetRelease straps present recordLost lost) s = .next t ∧ starts t ∧
        t.startKind = .cold ∧ t.table = TableMemory.cold ∧ t.subscriberCount = 0 ∧
        (∀ k : Sector, k ∉ gone → look t.crcs k = look s.crcs k) ∧
        (∃ e ∈ t.alarms.entries, e.kind = .tableCheck ∧ e.object = object ∧
          e.info = BitVec.ofNat 16 ((List.finRange 512).countP fun k => s.sectorFails gone k) ∧
          e.state = .activeUnacked) ∧
        t.alarms.entries.map (fun e => (e.kind, e.object)) = [(.tableCheck, object), (.clockNotSet, 0)] ∧
        (∀ i : Slot, t.slot i = SlotRuntime.cold) ∧ MatrixBegins t (List.finRange 48) ∧
        (∀ g : Group, look t.composition g = 0) ∧
        ∀ l : Leg, t.run l = .stopped ∧
          t.root l = { units := 0, dead := 0, out := false, onPowerAlarm := false }
    (∀ k : Sector, fails k ↔ k ∈ gone ∨ look s.crcs k ≠ s.table.crc k) ∧
    (∀ (m : TableMemory) (k : Sector), 362 ≤ k.val → s.table.crc k = m.crc k) ∧
    (good → (∀ k, ¬fails k) →
      ∃ t : State, exec (.resetRelease straps present recordLost lost) s = .next t ∧ starts t ∧
        t.startKind = .warm ∧ t.crcs = s.crcs ∧
        (let minute := s.table.record.minute
         t.table.record =
          { valid := false, minute := minute, crc := crc16 (Config.markerBytes false ++ beBytes 4 minute) }) ∧
        t.table =
          { s.table with
            record := t.table.record
            lastKnown := s.table.record.minute
            close := { s.table.close with requester := none }
            activation := t.table.activation
            run := t.table.run
            nodes := t.table.nodes
            units := t.table.units
            subs := t.table.subs } ∧
        t.composition = compositionOf s.table.active ∧
        (∀ m, s.table.activation = .deferred m → t.table.activation = .scheduled m) ∧
        (s.table.activation.isDeferred = false → t.table.activation = s.table.activation) ∧
        (∀ d : Drop,
          t.sub d = { s.sub d with seg := { start := none, kind := .none, tiers := 0 } }) ∧
        (∀ u : UnitNo, t.unit u = { UnitEntry.uninstalled with feeding := (s.unit u).feeding }) ∧
        t.subscriberCount =
          ((List.finRange 2048).countP fun d =>
            decide ((s.sub d).state = .active ∨ (s.sub d).state = .suspended)) ∧
        (∀ i : Slot,
          t.slot i =
            match look s.table.active i with
            | none => SlotRuntime.cold
            | some g =>
              { state := if g.muted = true then .muted else .onPrimary
                selected := if g.muted = true then none else some g.primary
                confirmed := .absent, attempts := 0 }) ∧
        MatrixBegins t ((List.finRange 48).filter fun i => decide (look s.table.active i ≠ none)) ∧
        ((∀ u f, (s.unit u).feeding = some f → (s.pathFrom f).Nodup) →
          ∀ n : NodeNo,
            t.node n =
              { place := (s.node n).place
                tally :=
                  { Tally.zero with
                    units := (List.finRange 128).countP fun u =>
                      match (s.unit u).feeding with
                      | some f => decide (n ∈ s.pathFrom f)
                      | none => false } }) ∧
        (∀ l : Leg,
          t.root l =
            { Tally.zero with
              units := (List.finRange 128).countP fun u =>
                decide ((s.unit u).feeding ≠ none ∧ UnitNo.leg u = l) }) ∧
        (∀ (g : Group) (a b : Tier), a ≠ b → Set8.has (look t.composition g) a = true →
          Set8.has (look t.composition g) b = true →
          AlarmListed t .mixedGroup g.val (BitVec.ofNat 16 (look t.composition g).toNat)) ∧
        ∀ l : Leg, t.run l = (if s.run l = .running then .running else .stopped)) ∧
    (good → ∀ k, fails k → (∀ j, j < k → ¬fails j) → cold k.val) ∧ (¬good → cold 512)

/-- R182, with R36, R55, R72, R89, R106, R144, R153 and R162: a COLD_START writes the cold-start values in
place, the legs' counters, sources, compositions and counts at the leg roots among them, keeps the ports and the
start kind, keeps the last-known minute or takes the minute count for it, lets transactions in flight run out
unapplied, empties a direct slot that is SUBMITTED and leaves one in flight or DONE, ends every TABLE_CHECK and
raises CLOCK_NOT_SET, and passes on every lock that the port holds. That a lock the port does not hold stays with
its holder is the model's choice (log entry 18), and so is that the journal slots are left
without bytes and the minute of the INVALID record 0 (log entry 10). -/
def Obligations.ColdStartWritesColdValuesInPlace : Prop :=
  ∀ (p : Port) (tag : Byte) (s : State), Serving s p Row.coldStart tag [] →
    ∃ t : State, exec (.coldStart p) s = .next (t.answered p tag .ok []) ∧
      t.table =
        { TableMemory.cold with
          lastKnown := s.clock.minute.getD s.table.lastKnown
          run := t.table.run } ∧
      (∀ l : Leg,
        t.run l = (if (s.leg l).tx = none then .stopped else .stopping) ∧
          (t.leg l).dueQueue = [] ∧ (t.leg l).orderQueue = [] ∧ (t.leg l).promotion = false ∧
          (t.leg l).pointer = 31 ∧
          (t.leg l).tx = ((s.leg l).tx.map fun x => { x with targetGone := true }) ∧
          (t.leg l).counters = LegCounters.zero ∧ (t.leg l).lineErrors = 0 ∧
          (t.leg l).tickInterval = none ∧
          (t.leg l).direct =
            (match (s.leg l).direct with
             | .submitted _ => .empty
             | x => x) ∧
          t.root l = { units := 0, dead := 0, out := false, onPowerAlarm := false }) ∧
      (∀ k : Source, t.source k = SourceRuntime.fresh) ∧
      (∀ g : Group, look t.composition g = 0) ∧ AlarmListed t .clockNotSet 0 0 ∧
      t.clock = { minute := none, seconds := 0, tenths := 0, holdBack := 0 } ∧
      t.subscriberCount = 0 ∧ t.spaceLow = false ∧ t.startKind = s.startKind ∧
      t.power = .normal ∧ t.inReset = false ∧ SamePorts s t ∧
      (∀ i : Slot,
        t.slot i = SlotRuntime.cold ∧
          (i ∈ t.matrix.queue ∨ t.matrix.tx.map MatrixTx.slot = some i)) ∧
      (∀ tx, s.matrix.tx = some tx → t.matrix.tx = some tx) ∧
      (∀ n : LockNo,
        t.lock n =
          if (s.lock n).holder = some p then
            { holder := (s.lock n).waiters.head?, waiters := (s.lock n).waiters.tail }
          else s.lock n) ∧
      (∀ (n : LockNo) (q : Port), (s.lock n).holder = some p → (s.lock n).waiters.head? = some q →
        (s.port q).phase ≠ .detached → (t.port q).flags &&& 0x02 = 0x02) ∧
      ∀ e ∈ t.alarms.entries, e.state ≠ .clearedUnacked → e.kind = .clockNotSet
end

