-- ==== Sys2Proof/Laws/State.lean ====
section
/-!
SUPPORT. What each accessor reads after each update: the field written, and every field left alone. Each
lemma but those about the record written is true by rfl.
-/

namespace Sys2Proof.Machine

variable (s : State)


/-! ## State.setPort -/

@[simp] theorem State.port_setPort_self (i : Port) (x : PortState) : (s.setPort i x).port i = x := look_put_self ..
theorem State.port_setPort (i j : Port) (x : PortState) : (s.setPort i x).port j = if i = j then x else s.port j := look_put ..
@[simp] theorem State.port_setPort_ne (i j : Port) (x : PortState) (h : j ≠ i) : (s.setPort i x).port j = s.port j := look_put_ne _ _ _ _ h
@[simp] theorem State.setPort_table (i : Port) (x : PortState) : (s.setPort i x).table = s.table := rfl
@[simp] theorem State.setPort_crcs (i : Port) (x : PortState) : (s.setPort i x).crcs = s.crcs := rfl
@[simp] theorem State.setPort_locks (i : Port) (x : PortState) : (s.setPort i x).locks = s.locks := rfl
@[simp] theorem State.setPort_subscriberCount (i : Port) (x : PortState) : (s.setPort i x).subscriberCount = s.subscriberCount := rfl
@[simp] theorem State.setPort_composition (i : Port) (x : PortState) : (s.setPort i x).composition = s.composition := rfl
@[simp] theorem State.setPort_slots (i : Port) (x : PortState) : (s.setPort i x).slots = s.slots := rfl
@[simp] theorem State.setPort_sources (i : Port) (x : PortState) : (s.setPort i x).sources = s.sources := rfl
@[simp] theorem State.setPort_matrix (i : Port) (x : PortState) : (s.setPort i x).matrix = s.matrix := rfl
@[simp] theorem State.setPort_legs (i : Port) (x : PortState) : (s.setPort i x).legs = s.legs := rfl
@[simp] theorem State.setPort_roots (i : Port) (x : PortState) : (s.setPort i x).roots = s.roots := rfl
@[simp] theorem State.setPort_alarms (i : Port) (x : PortState) : (s.setPort i x).alarms = s.alarms := rfl
@[simp] theorem State.setPort_spaceLow (i : Port) (x : PortState) : (s.setPort i x).spaceLow = s.spaceLow := rfl
@[simp] theorem State.setPort_clock (i : Port) (x : PortState) : (s.setPort i x).clock = s.clock := rfl
@[simp] theorem State.setPort_power (i : Port) (x : PortState) : (s.setPort i x).power = s.power := rfl
@[simp] theorem State.setPort_inReset (i : Port) (x : PortState) : (s.setPort i x).inReset = s.inReset := rfl
@[simp] theorem State.setPort_startKind (i : Port) (x : PortState) : (s.setPort i x).startKind = s.startKind := rfl
@[simp] theorem State.setPort_freeIndex (i : Port) (x : PortState) : (s.setPort i x).freeIndex = s.freeIndex := rfl
@[simp] theorem State.setPort_pending (i : Port) (x : PortState) : (s.setPort i x).pending = s.pending := rfl
@[simp] theorem State.lock_setPort (i : Port) (x : PortState) (j : LockNo) : (s.setPort i x).lock j = s.lock j := rfl
@[simp] theorem State.sub_setPort (i : Port) (x : PortState) (j : Drop) : (s.setPort i x).sub j = s.sub j := rfl
@[simp] theorem State.unit_setPort (i : Port) (x : PortState) (j : UnitNo) : (s.setPort i x).unit j = s.unit j := rfl
@[simp] theorem State.node_setPort (i : Port) (x : PortState) (j : NodeNo) : (s.setPort i x).node j = s.node j := rfl
@[simp] theorem State.root_setPort (i : Port) (x : PortState) (j : Leg) : (s.setPort i x).root j = s.root j := rfl
@[simp] theorem State.slot_setPort (i : Port) (x : PortState) (j : Slot) : (s.setPort i x).slot j = s.slot j := rfl
@[simp] theorem State.source_setPort (i : Port) (x : PortState) (j : Source) : (s.setPort i x).source j = s.source j := rfl
@[simp] theorem State.monitor_setPort (i : Port) (x : PortState) (j : Source) : (s.setPort i x).monitor j = s.monitor j := rfl
@[simp] theorem State.leg_setPort (i : Port) (x : PortState) (j : Leg) : (s.setPort i x).leg j = s.leg j := rfl
@[simp] theorem State.legSettings_setPort (i : Port) (x : PortState) (j : Leg) : (s.setPort i x).legSettings j = s.legSettings j := rfl
@[simp] theorem State.run_setPort (i : Port) (x : PortState) (j : Leg) : (s.setPort i x).run j = s.run j := rfl
@[simp] theorem State.now_setPort (i : Port) (x : PortState) : (s.setPort i x).now = s.now := rfl

/-! ## State.setLock -/

@[simp] theorem State.lock_setLock_self (i : LockNo) (x : Lock) : (s.setLock i x).lock i = x := look_put_self ..
theorem State.lock_setLock (i j : LockNo) (x : Lock) : (s.setLock i x).lock j = if i = j then x else s.lock j := look_put ..
@[simp] theorem State.lock_setLock_ne (i j : LockNo) (x : Lock) (h : j ≠ i) : (s.setLock i x).lock j = s.lock j := look_put_ne _ _ _ _ h
@[simp] theorem State.setLock_table (i : LockNo) (x : Lock) : (s.setLock i x).table = s.table := rfl
@[simp] theorem State.setLock_crcs (i : LockNo) (x : Lock) : (s.setLock i x).crcs = s.crcs := rfl
@[simp] theorem State.setLock_ports (i : LockNo) (x : Lock) : (s.setLock i x).ports = s.ports := rfl
@[simp] theorem State.setLock_subscriberCount (i : LockNo) (x : Lock) : (s.setLock i x).subscriberCount = s.subscriberCount := rfl
@[simp] theorem State.setLock_composition (i : LockNo) (x : Lock) : (s.setLock i x).composition = s.composition := rfl
@[simp] theorem State.setLock_slots (i : LockNo) (x : Lock) : (s.setLock i x).slots = s.slots := rfl
@[simp] theorem State.setLock_sources (i : LockNo) (x : Lock) : (s.setLock i x).sources = s.sources := rfl
@[simp] theorem State.setLock_matrix (i : LockNo) (x : Lock) : (s.setLock i x).matrix = s.matrix := rfl
@[simp] theorem State.setLock_legs (i : LockNo) (x : Lock) : (s.setLock i x).legs = s.legs := rfl
@[simp] theorem State.setLock_roots (i : LockNo) (x : Lock) : (s.setLock i x).roots = s.roots := rfl
@[simp] theorem State.setLock_alarms (i : LockNo) (x : Lock) : (s.setLock i x).alarms = s.alarms := rfl
@[simp] theorem State.setLock_spaceLow (i : LockNo) (x : Lock) : (s.setLock i x).spaceLow = s.spaceLow := rfl
@[simp] theorem State.setLock_clock (i : LockNo) (x : Lock) : (s.setLock i x).clock = s.clock := rfl
@[simp] theorem State.setLock_power (i : LockNo) (x : Lock) : (s.setLock i x).power = s.power := rfl
@[simp] theorem State.setLock_inReset (i : LockNo) (x : Lock) : (s.setLock i x).inReset = s.inReset := rfl
@[simp] theorem State.setLock_startKind (i : LockNo) (x : Lock) : (s.setLock i x).startKind = s.startKind := rfl
@[simp] theorem State.setLock_freeIndex (i : LockNo) (x : Lock) : (s.setLock i x).freeIndex = s.freeIndex := rfl
@[simp] theorem State.setLock_pending (i : LockNo) (x : Lock) : (s.setLock i x).pending = s.pending := rfl
@[simp] theorem State.port_setLock (i : LockNo) (x : Lock) (j : Port) : (s.setLock i x).port j = s.port j := rfl
@[simp] theorem State.sub_setLock (i : LockNo) (x : Lock) (j : Drop) : (s.setLock i x).sub j = s.sub j := rfl
@[simp] theorem State.unit_setLock (i : LockNo) (x : Lock) (j : UnitNo) : (s.setLock i x).unit j = s.unit j := rfl
@[simp] theorem State.node_setLock (i : LockNo) (x : Lock) (j : NodeNo) : (s.setLock i x).node j = s.node j := rfl
@[simp] theorem State.root_setLock (i : LockNo) (x : Lock) (j : Leg) : (s.setLock i x).root j = s.root j := rfl
@[simp] theorem State.slot_setLock (i : LockNo) (x : Lock) (j : Slot) : (s.setLock i x).slot j = s.slot j := rfl
@[simp] theorem State.source_setLock (i : LockNo) (x : Lock) (j : Source) : (s.setLock i x).source j = s.source j := rfl
@[simp] theorem State.monitor_setLock (i : LockNo) (x : Lock) (j : Source) : (s.setLock i x).monitor j = s.monitor j := rfl
@[simp] theorem State.leg_setLock (i : LockNo) (x : Lock) (j : Leg) : (s.setLock i x).leg j = s.leg j := rfl
@[simp] theorem State.legSettings_setLock (i : LockNo) (x : Lock) (j : Leg) : (s.setLock i x).legSettings j = s.legSettings j := rfl
@[simp] theorem State.run_setLock (i : LockNo) (x : Lock) (j : Leg) : (s.setLock i x).run j = s.run j := rfl
@[simp] theorem State.now_setLock (i : LockNo) (x : Lock) : (s.setLock i x).now = s.now := rfl

/-! ## State.setSub -/

@[simp] theorem State.sub_setSub_self (i : Drop) (x : Subscriber) : (s.setSub i x).sub i = x := look_put_self ..
theorem State.sub_setSub (i j : Drop) (x : Subscriber) : (s.setSub i x).sub j = if i = j then x else s.sub j := look_put ..
@[simp] theorem State.sub_setSub_ne (i j : Drop) (x : Subscriber) (h : j ≠ i) : (s.setSub i x).sub j = s.sub j := look_put_ne _ _ _ _ h
@[simp] theorem State.setSub_crcs (i : Drop) (x : Subscriber) : (s.setSub i x).crcs = s.crcs := rfl
@[simp] theorem State.setSub_ports (i : Drop) (x : Subscriber) : (s.setSub i x).ports = s.ports := rfl
@[simp] theorem State.setSub_locks (i : Drop) (x : Subscriber) : (s.setSub i x).locks = s.locks := rfl
@[simp] theorem State.setSub_subscriberCount (i : Drop) (x : Subscriber) : (s.setSub i x).subscriberCount = s.subscriberCount := rfl
@[simp] theorem State.setSub_composition (i : Drop) (x : Subscriber) : (s.setSub i x).composition = s.composition := rfl
@[simp] theorem State.setSub_slots (i : Drop) (x : Subscriber) : (s.setSub i x).slots = s.slots := rfl
@[simp] theorem State.setSub_sources (i : Drop) (x : Subscriber) : (s.setSub i x).sources = s.sources := rfl
@[simp] theorem State.setSub_matrix (i : Drop) (x : Subscriber) : (s.setSub i x).matrix = s.matrix := rfl
@[simp] theorem State.setSub_legs (i : Drop) (x : Subscriber) : (s.setSub i x).legs = s.legs := rfl
@[simp] theorem State.setSub_roots (i : Drop) (x : Subscriber) : (s.setSub i x).roots = s.roots := rfl
@[simp] theorem State.setSub_alarms (i : Drop) (x : Subscriber) : (s.setSub i x).alarms = s.alarms := rfl
@[simp] theorem State.setSub_spaceLow (i : Drop) (x : Subscriber) : (s.setSub i x).spaceLow = s.spaceLow := rfl
@[simp] theorem State.setSub_clock (i : Drop) (x : Subscriber) : (s.setSub i x).clock = s.clock := rfl
@[simp] theorem State.setSub_power (i : Drop) (x : Subscriber) : (s.setSub i x).power = s.power := rfl
@[simp] theorem State.setSub_inReset (i : Drop) (x : Subscriber) : (s.setSub i x).inReset = s.inReset := rfl
@[simp] theorem State.setSub_startKind (i : Drop) (x : Subscriber) : (s.setSub i x).startKind = s.startKind := rfl
@[simp] theorem State.setSub_freeIndex (i : Drop) (x : Subscriber) : (s.setSub i x).freeIndex = s.freeIndex := rfl
@[simp] theorem State.setSub_pending (i : Drop) (x : Subscriber) : (s.setSub i x).pending = s.pending := rfl
@[simp] theorem State.setSub_table_record (i : Drop) (x : Subscriber) : (s.setSub i x).table.record = s.table.record := rfl
@[simp] theorem State.setSub_table_lastKnown (i : Drop) (x : Subscriber) : (s.setSub i x).table.lastKnown = s.table.lastKnown := rfl
@[simp] theorem State.setSub_table_cycleNumber (i : Drop) (x : Subscriber) : (s.setSub i x).table.cycleNumber = s.table.cycleNumber := rfl
@[simp] theorem State.setSub_table_cycleStart (i : Drop) (x : Subscriber) : (s.setSub i x).table.cycleStart = s.table.cycleStart := rfl
@[simp] theorem State.setSub_table_close (i : Drop) (x : Subscriber) : (s.setSub i x).table.close = s.table.close := rfl
@[simp] theorem State.setSub_table_currentRates (i : Drop) (x : Subscriber) : (s.setSub i x).table.currentRates = s.table.currentRates := rfl
@[simp] theorem State.setSub_table_nextRates (i : Drop) (x : Subscriber) : (s.setSub i x).table.nextRates = s.table.nextRates := rfl
@[simp] theorem State.setSub_table_creditThreshold (i : Drop) (x : Subscriber) : (s.setSub i x).table.creditThreshold = s.table.creditThreshold := rfl
@[simp] theorem State.setSub_table_journal (i : Drop) (x : Subscriber) : (s.setSub i x).table.journal = s.table.journal := rfl
@[simp] theorem State.setSub_table_activation (i : Drop) (x : Subscriber) : (s.setSub i x).table.activation = s.table.activation := rfl
@[simp] theorem State.setSub_table_active (i : Drop) (x : Subscriber) : (s.setSub i x).table.active = s.table.active := rfl
@[simp] theorem State.setSub_table_pendingLineup (i : Drop) (x : Subscriber) : (s.setSub i x).table.pendingLineup = s.table.pendingLineup := rfl
@[simp] theorem State.setSub_table_sources (i : Drop) (x : Subscriber) : (s.setSub i x).table.sources = s.table.sources := rfl
@[simp] theorem State.setSub_table_legs (i : Drop) (x : Subscriber) : (s.setSub i x).table.legs = s.table.legs := rfl
@[simp] theorem State.setSub_table_run (i : Drop) (x : Subscriber) : (s.setSub i x).table.run = s.table.run := rfl
@[simp] theorem State.setSub_table_nodes (i : Drop) (x : Subscriber) : (s.setSub i x).table.nodes = s.table.nodes := rfl
@[simp] theorem State.setSub_table_units (i : Drop) (x : Subscriber) : (s.setSub i x).table.units = s.table.units := rfl
@[simp] theorem State.port_setSub (i : Drop) (x : Subscriber) (j : Port) : (s.setSub i x).port j = s.port j := rfl
@[simp] theorem State.lock_setSub (i : Drop) (x : Subscriber) (j : LockNo) : (s.setSub i x).lock j = s.lock j := rfl
@[simp] theorem State.unit_setSub (i : Drop) (x : Subscriber) (j : UnitNo) : (s.setSub i x).unit j = s.unit j := rfl
@[simp] theorem State.node_setSub (i : Drop) (x : Subscriber) (j : NodeNo) : (s.setSub i x).node j = s.node j := rfl
@[simp] theorem State.root_setSub (i : Drop) (x : Subscriber) (j : Leg) : (s.setSub i x).root j = s.root j := rfl
@[simp] theorem State.slot_setSub (i : Drop) (x : Subscriber) (j : Slot) : (s.setSub i x).slot j = s.slot j := rfl
@[simp] theorem State.source_setSub (i : Drop) (x : Subscriber) (j : Source) : (s.setSub i x).source j = s.source j := rfl
@[simp] theorem State.monitor_setSub (i : Drop) (x : Subscriber) (j : Source) : (s.setSub i x).monitor j = s.monitor j := rfl
@[simp] theorem State.leg_setSub (i : Drop) (x : Subscriber) (j : Leg) : (s.setSub i x).leg j = s.leg j := rfl
@[simp] theorem State.legSettings_setSub (i : Drop) (x : Subscriber) (j : Leg) : (s.setSub i x).legSettings j = s.legSettings j := rfl
@[simp] theorem State.run_setSub (i : Drop) (x : Subscriber) (j : Leg) : (s.setSub i x).run j = s.run j := rfl
@[simp] theorem State.now_setSub (i : Drop) (x : Subscriber) : (s.setSub i x).now = s.now := rfl

/-! ## State.setUnit -/

@[simp] theorem State.unit_setUnit_self (i : UnitNo) (x : UnitEntry) : (s.setUnit i x).unit i = x := look_put_self ..
theorem State.unit_setUnit (i j : UnitNo) (x : UnitEntry) : (s.setUnit i x).unit j = if i = j then x else s.unit j := look_put ..
@[simp] theorem State.unit_setUnit_ne (i j : UnitNo) (x : UnitEntry) (h : j ≠ i) : (s.setUnit i x).unit j = s.unit j := look_put_ne _ _ _ _ h
@[simp] theorem State.setUnit_crcs (i : UnitNo) (x : UnitEntry) : (s.setUnit i x).crcs = s.crcs := rfl
@[simp] theorem State.setUnit_ports (i : UnitNo) (x : UnitEntry) : (s.setUnit i x).ports = s.ports := rfl
@[simp] theorem State.setUnit_locks (i : UnitNo) (x : UnitEntry) : (s.setUnit i x).locks = s.locks := rfl
@[simp] theorem State.setUnit_subscriberCount (i : UnitNo) (x : UnitEntry) : (s.setUnit i x).subscriberCount = s.subscriberCount := rfl
@[simp] theorem State.setUnit_composition (i : UnitNo) (x : UnitEntry) : (s.setUnit i x).composition = s.composition := rfl
@[simp] theorem State.setUnit_slots (i : UnitNo) (x : UnitEntry) : (s.setUnit i x).slots = s.slots := rfl
@[simp] theorem State.setUnit_sources (i : UnitNo) (x : UnitEntry) : (s.setUnit i x).sources = s.sources := rfl
@[simp] theorem State.setUnit_matrix (i : UnitNo) (x : UnitEntry) : (s.setUnit i x).matrix = s.matrix := rfl
@[simp] theorem State.setUnit_legs (i : UnitNo) (x : UnitEntry) : (s.setUnit i x).legs = s.legs := rfl
@[simp] theorem State.setUnit_roots (i : UnitNo) (x : UnitEntry) : (s.setUnit i x).roots = s.roots := rfl
@[simp] theorem State.setUnit_alarms (i : UnitNo) (x : UnitEntry) : (s.setUnit i x).alarms = s.alarms := rfl
@[simp] theorem State.setUnit_spaceLow (i : UnitNo) (x : UnitEntry) : (s.setUnit i x).spaceLow = s.spaceLow := rfl
@[simp] theorem State.setUnit_clock (i : UnitNo) (x : UnitEntry) : (s.setUnit i x).clock = s.clock := rfl
@[simp] theorem State.setUnit_power (i : UnitNo) (x : UnitEntry) : (s.setUnit i x).power = s.power := rfl
@[simp] theorem State.setUnit_inReset (i : UnitNo) (x : UnitEntry) : (s.setUnit i x).inReset = s.inReset := rfl
@[simp] theorem State.setUnit_startKind (i : UnitNo) (x : UnitEntry) : (s.setUnit i x).startKind = s.startKind := rfl
@[simp] theorem State.setUnit_freeIndex (i : UnitNo) (x : UnitEntry) : (s.setUnit i x).freeIndex = s.freeIndex := rfl
@[simp] theorem State.setUnit_pending (i : UnitNo) (x : UnitEntry) : (s.setUnit i x).pending = s.pending := rfl
@[simp] theorem State.setUnit_table_record (i : UnitNo) (x : UnitEntry) : (s.setUnit i x).table.record = s.table.record := rfl
@[simp] theorem State.setUnit_table_lastKnown (i : UnitNo) (x : UnitEntry) : (s.setUnit i x).table.lastKnown = s.table.lastKnown := rfl
@[simp] theorem State.setUnit_table_cycleNumber (i : UnitNo) (x : UnitEntry) : (s.setUnit i x).table.cycleNumber = s.table.cycleNumber := rfl
@[simp] theorem State.setUnit_table_cycleStart (i : UnitNo) (x : UnitEntry) : (s.setUnit i x).table.cycleStart = s.table.cycleStart := rfl
@[simp] theorem State.setUnit_table_close (i : UnitNo) (x : UnitEntry) : (s.setUnit i x).table.close = s.table.close := rfl
@[simp] theorem State.setUnit_table_currentRates (i : UnitNo) (x : UnitEntry) : (s.setUnit i x).table.currentRates = s.table.currentRates := rfl
@[simp] theorem State.setUnit_table_nextRates (i : UnitNo) (x : UnitEntry) : (s.setUnit i x).table.nextRates = s.table.nextRates := rfl
@[simp] theorem State.setUnit_table_creditThreshold (i : UnitNo) (x : UnitEntry) : (s.setUnit i x).table.creditThreshold = s.table.creditThreshold := rfl
@[simp] theorem State.setUnit_table_journal (i : UnitNo) (x : UnitEntry) : (s.setUnit i x).table.journal = s.table.journal := rfl
@[simp] theorem State.setUnit_table_activation (i : UnitNo) (x : UnitEntry) : (s.setUnit i x).table.activation = s.table.activation := rfl
@[simp] theorem State.setUnit_table_active (i : UnitNo) (x : UnitEntry) : (s.setUnit i x).table.active = s.table.active := rfl
@[simp] theorem State.setUnit_table_pendingLineup (i : UnitNo) (x : UnitEntry) : (s.setUnit i x).table.pendingLineup = s.table.pendingLineup := rfl
@[simp] theorem State.setUnit_table_sources (i : UnitNo) (x : UnitEntry) : (s.setUnit i x).table.sources = s.table.sources := rfl
@[simp] theorem State.setUnit_table_legs (i : UnitNo) (x : UnitEntry) : (s.setUnit i x).table.legs = s.table.legs := rfl
@[simp] theorem State.setUnit_table_run (i : UnitNo) (x : UnitEntry) : (s.setUnit i x).table.run = s.table.run := rfl
@[simp] theorem State.setUnit_table_nodes (i : UnitNo) (x : UnitEntry) : (s.setUnit i x).table.nodes = s.table.nodes := rfl
@[simp] theorem State.setUnit_table_subs (i : UnitNo) (x : UnitEntry) : (s.setUnit i x).table.subs = s.table.subs := rfl
@[simp] theorem State.port_setUnit (i : UnitNo) (x : UnitEntry) (j : Port) : (s.setUnit i x).port j = s.port j := rfl
@[simp] theorem State.lock_setUnit (i : UnitNo) (x : UnitEntry) (j : LockNo) : (s.setUnit i x).lock j = s.lock j := rfl
@[simp] theorem State.sub_setUnit (i : UnitNo) (x : UnitEntry) (j : Drop) : (s.setUnit i x).sub j = s.sub j := rfl
@[simp] theorem State.node_setUnit (i : UnitNo) (x : UnitEntry) (j : NodeNo) : (s.setUnit i x).node j = s.node j := rfl
@[simp] theorem State.root_setUnit (i : UnitNo) (x : UnitEntry) (j : Leg) : (s.setUnit i x).root j = s.root j := rfl
@[simp] theorem State.slot_setUnit (i : UnitNo) (x : UnitEntry) (j : Slot) : (s.setUnit i x).slot j = s.slot j := rfl
@[simp] theorem State.source_setUnit (i : UnitNo) (x : UnitEntry) (j : Source) : (s.setUnit i x).source j = s.source j := rfl
@[simp] theorem State.monitor_setUnit (i : UnitNo) (x : UnitEntry) (j : Source) : (s.setUnit i x).monitor j = s.monitor j := rfl
@[simp] theorem State.leg_setUnit (i : UnitNo) (x : UnitEntry) (j : Leg) : (s.setUnit i x).leg j = s.leg j := rfl
@[simp] theorem State.legSettings_setUnit (i : UnitNo) (x : UnitEntry) (j : Leg) : (s.setUnit i x).legSettings j = s.legSettings j := rfl
@[simp] theorem State.run_setUnit (i : UnitNo) (x : UnitEntry) (j : Leg) : (s.setUnit i x).run j = s.run j := rfl
@[simp] theorem State.now_setUnit (i : UnitNo) (x : UnitEntry) : (s.setUnit i x).now = s.now := rfl

/-! ## State.setNode -/

@[simp] theorem State.node_setNode_self (i : NodeNo) (x : NodeEntry) : (s.setNode i x).node i = x := look_put_self ..
theorem State.node_setNode (i j : NodeNo) (x : NodeEntry) : (s.setNode i x).node j = if i = j then x else s.node j := look_put ..
@[simp] theorem State.node_setNode_ne (i j : NodeNo) (x : NodeEntry) (h : j ≠ i) : (s.setNode i x).node j = s.node j := look_put_ne _ _ _ _ h
@[simp] theorem State.setNode_crcs (i : NodeNo) (x : NodeEntry) : (s.setNode i x).crcs = s.crcs := rfl
@[simp] theorem State.setNode_ports (i : NodeNo) (x : NodeEntry) : (s.setNode i x).ports = s.ports := rfl
@[simp] theorem State.setNode_locks (i : NodeNo) (x : NodeEntry) : (s.setNode i x).locks = s.locks := rfl
@[simp] theorem State.setNode_subscriberCount (i : NodeNo) (x : NodeEntry) : (s.setNode i x).subscriberCount = s.subscriberCount := rfl
@[simp] theorem State.setNode_composition (i : NodeNo) (x : NodeEntry) : (s.setNode i x).composition = s.composition := rfl
@[simp] theorem State.setNode_slots (i : NodeNo) (x : NodeEntry) : (s.setNode i x).slots = s.slots := rfl
@[simp] theorem State.setNode_sources (i : NodeNo) (x : NodeEntry) : (s.setNode i x).sources = s.sources := rfl
@[simp] theorem State.setNode_matrix (i : NodeNo) (x : NodeEntry) : (s.setNode i x).matrix = s.matrix := rfl
@[simp] theorem State.setNode_legs (i : NodeNo) (x : NodeEntry) : (s.setNode i x).legs = s.legs := rfl
@[simp] theorem State.setNode_roots (i : NodeNo) (x : NodeEntry) : (s.setNode i x).roots = s.roots := rfl
@[simp] theorem State.setNode_alarms (i : NodeNo) (x : NodeEntry) : (s.setNode i x).alarms = s.alarms := rfl
@[simp] theorem State.setNode_spaceLow (i : NodeNo) (x : NodeEntry) : (s.setNode i x).spaceLow = s.spaceLow := rfl
@[simp] theorem State.setNode_clock (i : NodeNo) (x : NodeEntry) : (s.setNode i x).clock = s.clock := rfl
@[simp] theorem State.setNode_power (i : NodeNo) (x : NodeEntry) : (s.setNode i x).power = s.power := rfl
@[simp] theorem State.setNode_inReset (i : NodeNo) (x : NodeEntry) : (s.setNode i x).inReset = s.inReset := rfl
@[simp] theorem State.setNode_startKind (i : NodeNo) (x : NodeEntry) : (s.setNode i x).startKind = s.startKind := rfl
@[simp] theorem State.setNode_freeIndex (i : NodeNo) (x : NodeEntry) : (s.setNode i x).freeIndex = s.freeIndex := rfl
@[simp] theorem State.setNode_pending (i : NodeNo) (x : NodeEntry) : (s.setNode i x).pending = s.pending := rfl
@[simp] theorem State.setNode_table_record (i : NodeNo) (x : NodeEntry) : (s.setNode i x).table.record = s.table.record := rfl
@[simp] theorem State.setNode_table_lastKnown (i : NodeNo) (x : NodeEntry) : (s.setNode i x).table.lastKnown = s.table.lastKnown := rfl
@[simp] theorem State.setNode_table_cycleNumber (i : NodeNo) (x : NodeEntry) : (s.setNode i x).table.cycleNumber = s.table.cycleNumber := rfl
@[simp] theorem State.setNode_table_cycleStart (i : NodeNo) (x : NodeEntry) : (s.setNode i x).table.cycleStart = s.table.cycleStart := rfl
@[simp] theorem State.setNode_table_close (i : NodeNo) (x : NodeEntry) : (s.setNode i x).table.close = s.table.close := rfl
@[simp] theorem State.setNode_table_currentRates (i : NodeNo) (x : NodeEntry) : (s.setNode i x).table.currentRates = s.table.currentRates := rfl
@[simp] theorem State.setNode_table_nextRates (i : NodeNo) (x : NodeEntry) : (s.setNode i x).table.nextRates = s.table.nextRates := rfl
@[simp] theorem State.setNode_table_creditThreshold (i : NodeNo) (x : NodeEntry) : (s.setNode i x).table.creditThreshold = s.table.creditThreshold := rfl
@[simp] theorem State.setNode_table_journal (i : NodeNo) (x : NodeEntry) : (s.setNode i x).table.journal = s.table.journal := rfl
@[simp] theorem State.setNode_table_activation (i : NodeNo) (x : NodeEntry) : (s.setNode i x).table.activation = s.table.activation := rfl
@[simp] theorem State.setNode_table_active (i : NodeNo) (x : NodeEntry) : (s.setNode i x).table.active = s.table.active := rfl
@[simp] theorem State.setNode_table_pendingLineup (i : NodeNo) (x : NodeEntry) : (s.setNode i x).table.pendingLineup = s.table.pendingLineup := rfl
@[simp] theorem State.setNode_table_sources (i : NodeNo) (x : NodeEntry) : (s.setNode i x).table.sources = s.table.sources := rfl
@[simp] theorem State.setNode_table_legs (i : NodeNo) (x : NodeEntry) : (s.setNode i x).table.legs = s.table.legs := rfl
@[simp] theorem State.setNode_table_run (i : NodeNo) (x : NodeEntry) : (s.setNode i x).table.run = s.table.run := rfl
@[simp] theorem State.setNode_table_units (i : NodeNo) (x : NodeEntry) : (s.setNode i x).table.units = s.table.units := rfl
@[simp] theorem State.setNode_table_subs (i : NodeNo) (x : NodeEntry) : (s.setNode i x).table.subs = s.table.subs := rfl
@[simp] theorem State.port_setNode (i : NodeNo) (x : NodeEntry) (j : Port) : (s.setNode i x).port j = s.port j := rfl
@[simp] theorem State.lock_setNode (i : NodeNo) (x : NodeEntry) (j : LockNo) : (s.setNode i x).lock j = s.lock j := rfl
@[simp] theorem State.sub_setNode (i : NodeNo) (x : NodeEntry) (j : Drop) : (s.setNode i x).sub j = s.sub j := rfl
@[simp] theorem State.unit_setNode (i : NodeNo) (x : NodeEntry) (j : UnitNo) : (s.setNode i x).unit j = s.unit j := rfl
@[simp] theorem State.root_setNode (i : NodeNo) (x : NodeEntry) (j : Leg) : (s.setNode i x).root j = s.root j := rfl
@[simp] theorem State.slot_setNode (i : NodeNo) (x : NodeEntry) (j : Slot) : (s.setNode i x).slot j = s.slot j := rfl
@[simp] theorem State.source_setNode (i : NodeNo) (x : NodeEntry) (j : Source) : (s.setNode i x).source j = s.source j := rfl
@[simp] theorem State.monitor_setNode (i : NodeNo) (x : NodeEntry) (j : Source) : (s.setNode i x).monitor j = s.monitor j := rfl
@[simp] theorem State.leg_setNode (i : NodeNo) (x : NodeEntry) (j : Leg) : (s.setNode i x).leg j = s.leg j := rfl
@[simp] theorem State.legSettings_setNode (i : NodeNo) (x : NodeEntry) (j : Leg) : (s.setNode i x).legSettings j = s.legSettings j := rfl
@[simp] theorem State.run_setNode (i : NodeNo) (x : NodeEntry) (j : Leg) : (s.setNode i x).run j = s.run j := rfl
@[simp] theorem State.now_setNode (i : NodeNo) (x : NodeEntry) : (s.setNode i x).now = s.now := rfl

/-! ## State.setRoot -/

@[simp] theorem State.root_setRoot_self (i : Leg) (x : Tally) : (s.setRoot i x).root i = x := look_put_self ..
theorem State.root_setRoot (i j : Leg) (x : Tally) : (s.setRoot i x).root j = if i = j then x else s.root j := look_put ..
@[simp] theorem State.root_setRoot_ne (i j : Leg) (x : Tally) (h : j ≠ i) : (s.setRoot i x).root j = s.root j := look_put_ne _ _ _ _ h
@[simp] theorem State.setRoot_table (i : Leg) (x : Tally) : (s.setRoot i x).table = s.table := rfl
@[simp] theorem State.setRoot_crcs (i : Leg) (x : Tally) : (s.setRoot i x).crcs = s.crcs := rfl
@[simp] theorem State.setRoot_ports (i : Leg) (x : Tally) : (s.setRoot i x).ports = s.ports := rfl
@[simp] theorem State.setRoot_locks (i : Leg) (x : Tally) : (s.setRoot i x).locks = s.locks := rfl
@[simp] theorem State.setRoot_subscriberCount (i : Leg) (x : Tally) : (s.setRoot i x).subscriberCount = s.subscriberCount := rfl
@[simp] theorem State.setRoot_composition (i : Leg) (x : Tally) : (s.setRoot i x).composition = s.composition := rfl
@[simp] theorem State.setRoot_slots (i : Leg) (x : Tally) : (s.setRoot i x).slots = s.slots := rfl
@[simp] theorem State.setRoot_sources (i : Leg) (x : Tally) : (s.setRoot i x).sources = s.sources := rfl
@[simp] theorem State.setRoot_matrix (i : Leg) (x : Tally) : (s.setRoot i x).matrix = s.matrix := rfl
@[simp] theorem State.setRoot_legs (i : Leg) (x : Tally) : (s.setRoot i x).legs = s.legs := rfl
@[simp] theorem State.setRoot_alarms (i : Leg) (x : Tally) : (s.setRoot i x).alarms = s.alarms := rfl
@[simp] theorem State.setRoot_spaceLow (i : Leg) (x : Tally) : (s.setRoot i x).spaceLow = s.spaceLow := rfl
@[simp] theorem State.setRoot_clock (i : Leg) (x : Tally) : (s.setRoot i x).clock = s.clock := rfl
@[simp] theorem State.setRoot_power (i : Leg) (x : Tally) : (s.setRoot i x).power = s.power := rfl
@[simp] theorem State.setRoot_inReset (i : Leg) (x : Tally) : (s.setRoot i x).inReset = s.inReset := rfl
@[simp] theorem State.setRoot_startKind (i : Leg) (x : Tally) : (s.setRoot i x).startKind = s.startKind := rfl
@[simp] theorem State.setRoot_freeIndex (i : Leg) (x : Tally) : (s.setRoot i x).freeIndex = s.freeIndex := rfl
@[simp] theorem State.setRoot_pending (i : Leg) (x : Tally) : (s.setRoot i x).pending = s.pending := rfl
@[simp] theorem State.port_setRoot (i : Leg) (x : Tally) (j : Port) : (s.setRoot i x).port j = s.port j := rfl
@[simp] theorem State.lock_setRoot (i : Leg) (x : Tally) (j : LockNo) : (s.setRoot i x).lock j = s.lock j := rfl
@[simp] theorem State.sub_setRoot (i : Leg) (x : Tally) (j : Drop) : (s.setRoot i x).sub j = s.sub j := rfl
@[simp] theorem State.unit_setRoot (i : Leg) (x : Tally) (j : UnitNo) : (s.setRoot i x).unit j = s.unit j := rfl
@[simp] theorem State.node_setRoot (i : Leg) (x : Tally) (j : NodeNo) : (s.setRoot i x).node j = s.node j := rfl
@[simp] theorem State.slot_setRoot (i : Leg) (x : Tally) (j : Slot) : (s.setRoot i x).slot j = s.slot j := rfl
@[simp] theorem State.source_setRoot (i : Leg) (x : Tally) (j : Source) : (s.setRoot i x).source j = s.source j := rfl
@[simp] theorem State.monitor_setRoot (i : Leg) (x : Tally) (j : Source) : (s.setRoot i x).monitor j = s.monitor j := rfl
@[simp] theorem State.leg_setRoot (i : Leg) (x : Tally) (j : Leg) : (s.setRoot i x).leg j = s.leg j := rfl
@[simp] theorem State.legSettings_setRoot (i : Leg) (x : Tally) (j : Leg) : (s.setRoot i x).legSettings j = s.legSettings j := rfl
@[simp] theorem State.run_setRoot (i : Leg) (x : Tally) (j : Leg) : (s.setRoot i x).run j = s.run j := rfl
@[simp] theorem State.now_setRoot (i : Leg) (x : Tally) : (s.setRoot i x).now = s.now := rfl

/-! ## State.setSlot -/

@[simp] theorem State.slot_setSlot_self (i : Slot) (x : SlotRuntime) : (s.setSlot i x).slot i = x := look_put_self ..
theorem State.slot_setSlot (i j : Slot) (x : SlotRuntime) : (s.setSlot i x).slot j = if i = j then x else s.slot j := look_put ..
@[simp] theorem State.slot_setSlot_ne (i j : Slot) (x : SlotRuntime) (h : j ≠ i) : (s.setSlot i x).slot j = s.slot j := look_put_ne _ _ _ _ h
@[simp] theorem State.setSlot_table (i : Slot) (x : SlotRuntime) : (s.setSlot i x).table = s.table := rfl
@[simp] theorem State.setSlot_crcs (i : Slot) (x : SlotRuntime) : (s.setSlot i x).crcs = s.crcs := rfl
@[simp] theorem State.setSlot_ports (i : Slot) (x : SlotRuntime) : (s.setSlot i x).ports = s.ports := rfl
@[simp] theorem State.setSlot_locks (i : Slot) (x : SlotRuntime) : (s.setSlot i x).locks = s.locks := rfl
@[simp] theorem State.setSlot_subscriberCount (i : Slot) (x : SlotRuntime) : (s.setSlot i x).subscriberCount = s.subscriberCount := rfl
@[simp] theorem State.setSlot_composition (i : Slot) (x : SlotRuntime) : (s.setSlot i x).composition = s.composition := rfl
@[simp] theorem State.setSlot_sources (i : Slot) (x : SlotRuntime) : (s.setSlot i x).sources = s.sources := rfl
@[simp] theorem State.setSlot_matrix (i : Slot) (x : SlotRuntime) : (s.setSlot i x).matrix = s.matrix := rfl
@[simp] theorem State.setSlot_legs (i : Slot) (x : SlotRuntime) : (s.setSlot i x).legs = s.legs := rfl
@[simp] theorem State.setSlot_roots (i : Slot) (x : SlotRuntime) : (s.setSlot i x).roots = s.roots := rfl
@[simp] theorem State.setSlot_alarms (i : Slot) (x : SlotRuntime) : (s.setSlot i x).alarms = s.alarms := rfl
@[simp] theorem State.setSlot_spaceLow (i : Slot) (x : SlotRuntime) : (s.setSlot i x).spaceLow = s.spaceLow := rfl
@[simp] theorem State.setSlot_clock (i : Slot) (x : SlotRuntime) : (s.setSlot i x).clock = s.clock := rfl
@[simp] theorem State.setSlot_power (i : Slot) (x : SlotRuntime) : (s.setSlot i x).power = s.power := rfl
@[simp] theorem State.setSlot_inReset (i : Slot) (x : SlotRuntime) : (s.setSlot i x).inReset = s.inReset := rfl
@[simp] theorem State.setSlot_startKind (i : Slot) (x : SlotRuntime) : (s.setSlot i x).startKind = s.startKind := rfl
@[simp] theorem State.setSlot_freeIndex (i : Slot) (x : SlotRuntime) : (s.setSlot i x).freeIndex = s.freeIndex := rfl
@[simp] theorem State.setSlot_pending (i : Slot) (x : SlotRuntime) : (s.setSlot i x).pending = s.pending := rfl
@[simp] theorem State.port_setSlot (i : Slot) (x : SlotRuntime) (j : Port) : (s.setSlot i x).port j = s.port j := rfl
@[simp] theorem State.lock_setSlot (i : Slot) (x : SlotRuntime) (j : LockNo) : (s.setSlot i x).lock j = s.lock j := rfl
@[simp] theorem State.sub_setSlot (i : Slot) (x : SlotRuntime) (j : Drop) : (s.setSlot i x).sub j = s.sub j := rfl
@[simp] theorem State.unit_setSlot (i : Slot) (x : SlotRuntime) (j : UnitNo) : (s.setSlot i x).unit j = s.unit j := rfl
@[simp] theorem State.node_setSlot (i : Slot) (x : SlotRuntime) (j : NodeNo) : (s.setSlot i x).node j = s.node j := rfl
@[simp] theorem State.root_setSlot (i : Slot) (x : SlotRuntime) (j : Leg) : (s.setSlot i x).root j = s.root j := rfl
@[simp] theorem State.source_setSlot (i : Slot) (x : SlotRuntime) (j : Source) : (s.setSlot i x).source j = s.source j := rfl
@[simp] theorem State.monitor_setSlot (i : Slot) (x : SlotRuntime) (j : Source) : (s.setSlot i x).monitor j = s.monitor j := rfl
@[simp] theorem State.leg_setSlot (i : Slot) (x : SlotRuntime) (j : Leg) : (s.setSlot i x).leg j = s.leg j := rfl
@[simp] theorem State.legSettings_setSlot (i : Slot) (x : SlotRuntime) (j : Leg) : (s.setSlot i x).legSettings j = s.legSettings j := rfl
@[simp] theorem State.run_setSlot (i : Slot) (x : SlotRuntime) (j : Leg) : (s.setSlot i x).run j = s.run j := rfl
@[simp] theorem State.now_setSlot (i : Slot) (x : SlotRuntime) : (s.setSlot i x).now = s.now := rfl

/-! ## State.setSource -/

@[simp] theorem State.source_setSource_self (i : Source) (x : SourceRuntime) : (s.setSource i x).source i = x := look_put_self ..
theorem State.source_setSource (i j : Source) (x : SourceRuntime) : (s.setSource i x).source j = if i = j then x else s.source j := look_put ..
@[simp] theorem State.source_setSource_ne (i j : Source) (x : SourceRuntime) (h : j ≠ i) : (s.setSource i x).source j = s.source j := look_put_ne _ _ _ _ h
@[simp] theorem State.setSource_table (i : Source) (x : SourceRuntime) : (s.setSource i x).table = s.table := rfl
@[simp] theorem State.setSource_crcs (i : Source) (x : SourceRuntime) : (s.setSource i x).crcs = s.crcs := rfl
@[simp] theorem State.setSource_ports (i : Source) (x : SourceRuntime) : (s.setSource i x).ports = s.ports := rfl
@[simp] theorem State.setSource_locks (i : Source) (x : SourceRuntime) : (s.setSource i x).locks = s.locks := rfl
@[simp] theorem State.setSource_subscriberCount (i : Source) (x : SourceRuntime) : (s.setSource i x).subscriberCount = s.subscriberCount := rfl
@[simp] theorem State.setSource_composition (i : Source) (x : SourceRuntime) : (s.setSource i x).composition = s.composition := rfl
@[simp] theorem State.setSource_slots (i : Source) (x : SourceRuntime) : (s.setSource i x).slots = s.slots := rfl
@[simp] theorem State.setSource_matrix (i : Source) (x : SourceRuntime) : (s.setSource i x).matrix = s.matrix := rfl
@[simp] theorem State.setSource_legs (i : Source) (x : SourceRuntime) : (s.setSource i x).legs = s.legs := rfl
@[simp] theorem State.setSource_roots (i : Source) (x : SourceRuntime) : (s.setSource i x).roots = s.roots := rfl
@[simp] theorem State.setSource_alarms (i : Source) (x : SourceRuntime) : (s.setSource i x).alarms = s.alarms := rfl
@[simp] theorem State.setSource_spaceLow (i : Source) (x : SourceRuntime) : (s.setSource i x).spaceLow = s.spaceLow := rfl
@[simp] theorem State.setSource_clock (i : Source) (x : SourceRuntime) : (s.setSource i x).clock = s.clock := rfl
@[simp] theorem State.setSource_power (i : Source) (x : SourceRuntime) : (s.setSource i x).power = s.power := rfl
@[simp] theorem State.setSource_inReset (i : Source) (x : SourceRuntime) : (s.setSource i x).inReset = s.inReset := rfl
@[simp] theorem State.setSource_startKind (i : Source) (x : SourceRuntime) : (s.setSource i x).startKind = s.startKind := rfl
@[simp] theorem State.setSource_freeIndex (i : Source) (x : SourceRuntime) : (s.setSource i x).freeIndex = s.freeIndex := rfl
@[simp] theorem State.setSource_pending (i : Source) (x : SourceRuntime) : (s.setSource i x).pending = s.pending := rfl
@[simp] theorem State.port_setSource (i : Source) (x : SourceRuntime) (j : Port) : (s.setSource i x).port j = s.port j := rfl
@[simp] theorem State.lock_setSource (i : Source) (x : SourceRuntime) (j : LockNo) : (s.setSource i x).lock j = s.lock j := rfl
@[simp] theorem State.sub_setSource (i : Source) (x : SourceRuntime) (j : Drop) : (s.setSource i x).sub j = s.sub j := rfl
@[simp] theorem State.unit_setSource (i : Source) (x : SourceRuntime) (j : UnitNo) : (s.setSource i x).unit j = s.unit j := rfl
@[simp] theorem State.node_setSource (i : Source) (x : SourceRuntime) (j : NodeNo) : (s.setSource i x).node j = s.node j := rfl
@[simp] theorem State.root_setSource (i : Source) (x : SourceRuntime) (j : Leg) : (s.setSource i x).root j = s.root j := rfl
@[simp] theorem State.slot_setSource (i : Source) (x : SourceRuntime) (j : Slot) : (s.setSource i x).slot j = s.slot j := rfl
@[simp] theorem State.monitor_setSource (i : Source) (x : SourceRuntime) (j : Source) : (s.setSource i x).monitor j = s.monitor j := rfl
@[simp] theorem State.leg_setSource (i : Source) (x : SourceRuntime) (j : Leg) : (s.setSource i x).leg j = s.leg j := rfl
@[simp] theorem State.legSettings_setSource (i : Source) (x : SourceRuntime) (j : Leg) : (s.setSource i x).legSettings j = s.legSettings j := rfl
@[simp] theorem State.run_setSource (i : Source) (x : SourceRuntime) (j : Leg) : (s.setSource i x).run j = s.run j := rfl
@[simp] theorem State.now_setSource (i : Source) (x : SourceRuntime) : (s.setSource i x).now = s.now := rfl

/-! ## State.setMonitor -/

@[simp] theorem State.monitor_setMonitor_self (i : Source) (x : SourceSettings) : (s.setMonitor i x).monitor i = x := look_put_self ..
theorem State.monitor_setMonitor (i j : Source) (x : SourceSettings) : (s.setMonitor i x).monitor j = if i = j then x else s.monitor j := look_put ..
@[simp] theorem State.monitor_setMonitor_ne (i j : Source) (x : SourceSettings) (h : j ≠ i) : (s.setMonitor i x).monitor j = s.monitor j := look_put_ne _ _ _ _ h
@[simp] theorem State.setMonitor_crcs (i : Source) (x : SourceSettings) : (s.setMonitor i x).crcs = s.crcs := rfl
@[simp] theorem State.setMonitor_ports (i : Source) (x : SourceSettings) : (s.setMonitor i x).ports = s.ports := rfl
@[simp] theorem State.setMonitor_locks (i : Source) (x : SourceSettings) : (s.setMonitor i x).locks = s.locks := rfl
@[simp] theorem State.setMonitor_subscriberCount (i : Source) (x : SourceSettings) : (s.setMonitor i x).subscriberCount = s.subscriberCount := rfl
@[simp] theorem State.setMonitor_composition (i : Source) (x : SourceSettings) : (s.setMonitor i x).composition = s.composition := rfl
@[simp] theorem State.setMonitor_slots (i : Source) (x : SourceSettings) : (s.setMonitor i x).slots = s.slots := rfl
@[simp] theorem State.setMonitor_sources (i : Source) (x : SourceSettings) : (s.setMonitor i x).sources = s.sources := rfl
@[simp] theorem State.setMonitor_matrix (i : Source) (x : SourceSettings) : (s.setMonitor i x).matrix = s.matrix := rfl
@[simp] theorem State.setMonitor_legs (i : Source) (x : SourceSettings) : (s.setMonitor i x).legs = s.legs := rfl
@[simp] theorem State.setMonitor_roots (i : Source) (x : SourceSettings) : (s.setMonitor i x).roots = s.roots := rfl
@[simp] theorem State.setMonitor_alarms (i : Source) (x : SourceSettings) : (s.setMonitor i x).alarms = s.alarms := rfl
@[simp] theorem State.setMonitor_spaceLow (i : Source) (x : SourceSettings) : (s.setMonitor i x).spaceLow = s.spaceLow := rfl
@[simp] theorem State.setMonitor_clock (i : Source) (x : SourceSettings) : (s.setMonitor i x).clock = s.clock := rfl
@[simp] theorem State.setMonitor_power (i : Source) (x : SourceSettings) : (s.setMonitor i x).power = s.power := rfl
@[simp] theorem State.setMonitor_inReset (i : Source) (x : SourceSettings) : (s.setMonitor i x).inReset = s.inReset := rfl
@[simp] theorem State.setMonitor_startKind (i : Source) (x : SourceSettings) : (s.setMonitor i x).startKind = s.startKind := rfl
@[simp] theorem State.setMonitor_freeIndex (i : Source) (x : SourceSettings) : (s.setMonitor i x).freeIndex = s.freeIndex := rfl
@[simp] theorem State.setMonitor_pending (i : Source) (x : SourceSettings) : (s.setMonitor i x).pending = s.pending := rfl
@[simp] theorem State.setMonitor_table_record (i : Source) (x : SourceSettings) : (s.setMonitor i x).table.record = s.table.record := rfl
@[simp] theorem State.setMonitor_table_lastKnown (i : Source) (x : SourceSettings) : (s.setMonitor i x).table.lastKnown = s.table.lastKnown := rfl
@[simp] theorem State.setMonitor_table_cycleNumber (i : Source) (x : SourceSettings) : (s.setMonitor i x).table.cycleNumber = s.table.cycleNumber := rfl
@[simp] theorem State.setMonitor_table_cycleStart (i : Source) (x : SourceSettings) : (s.setMonitor i x).table.cycleStart = s.table.cycleStart := rfl
@[simp] theorem State.setMonitor_table_close (i : Source) (x : SourceSettings) : (s.setMonitor i x).table.close = s.table.close := rfl
@[simp] theorem State.setMonitor_table_currentRates (i : Source) (x : SourceSettings) : (s.setMonitor i x).table.currentRates = s.table.currentRates := rfl
@[simp] theorem State.setMonitor_table_nextRates (i : Source) (x : SourceSettings) : (s.setMonitor i x).table.nextRates = s.table.nextRates := rfl
@[simp] theorem State.setMonitor_table_creditThreshold (i : Source) (x : SourceSettings) : (s.setMonitor i x).table.creditThreshold = s.table.creditThreshold := rfl
@[simp] theorem State.setMonitor_table_journal (i : Source) (x : SourceSettings) : (s.setMonitor i x).table.journal = s.table.journal := rfl
@[simp] theorem State.setMonitor_table_activation (i : Source) (x : SourceSettings) : (s.setMonitor i x).table.activation = s.table.activation := rfl
@[simp] theorem State.setMonitor_table_active (i : Source) (x : SourceSettings) : (s.setMonitor i x).table.active = s.table.active := rfl
@[simp] theorem State.setMonitor_table_pendingLineup (i : Source) (x : SourceSettings) : (s.setMonitor i x).table.pendingLineup = s.table.pendingLineup := rfl
@[simp] theorem State.setMonitor_table_legs (i : Source) (x : SourceSettings) : (s.setMonitor i x).table.legs = s.table.legs := rfl
@[simp] theorem State.setMonitor_table_run (i : Source) (x : SourceSettings) : (s.setMonitor i x).table.run = s.table.run := rfl
@[simp] theorem State.setMonitor_table_nodes (i : Source) (x : SourceSettings) : (s.setMonitor i x).table.nodes = s.table.nodes := rfl
@[simp] theorem State.setMonitor_table_units (i : Source) (x : SourceSettings) : (s.setMonitor i x).table.units = s.table.units := rfl
@[simp] theorem State.setMonitor_table_subs (i : Source) (x : SourceSettings) : (s.setMonitor i x).table.subs = s.table.subs := rfl
@[simp] theorem State.port_setMonitor (i : Source) (x : SourceSettings) (j : Port) : (s.setMonitor i x).port j = s.port j := rfl
@[simp] theorem State.lock_setMonitor (i : Source) (x : SourceSettings) (j : LockNo) : (s.setMonitor i x).lock j = s.lock j := rfl
@[simp] theorem State.sub_setMonitor (i : Source) (x : SourceSettings) (j : Drop) : (s.setMonitor i x).sub j = s.sub j := rfl
@[simp] theorem State.unit_setMonitor (i : Source) (x : SourceSettings) (j : UnitNo) : (s.setMonitor i x).unit j = s.unit j := rfl
@[simp] theorem State.node_setMonitor (i : Source) (x : SourceSettings) (j : NodeNo) : (s.setMonitor i x).node j = s.node j := rfl
@[simp] theorem State.root_setMonitor (i : Source) (x : SourceSettings) (j : Leg) : (s.setMonitor i x).root j = s.root j := rfl
@[simp] theorem State.slot_setMonitor (i : Source) (x : SourceSettings) (j : Slot) : (s.setMonitor i x).slot j = s.slot j := rfl
@[simp] theorem State.source_setMonitor (i : Source) (x : SourceSettings) (j : Source) : (s.setMonitor i x).source j = s.source j := rfl
@[simp] theorem State.leg_setMonitor (i : Source) (x : SourceSettings) (j : Leg) : (s.setMonitor i x).leg j = s.leg j := rfl
@[simp] theorem State.legSettings_setMonitor (i : Source) (x : SourceSettings) (j : Leg) : (s.setMonitor i x).legSettings j = s.legSettings j := rfl
@[simp] theorem State.run_setMonitor (i : Source) (x : SourceSettings) (j : Leg) : (s.setMonitor i x).run j = s.run j := rfl
@[simp] theorem State.now_setMonitor (i : Source) (x : SourceSettings) : (s.setMonitor i x).now = s.now := rfl

/-! ## State.setLeg -/

@[simp] theorem State.leg_setLeg_self (i : Leg) (x : LegState) : (s.setLeg i x).leg i = x := look_put_self ..
theorem State.leg_setLeg (i j : Leg) (x : LegState) : (s.setLeg i x).leg j = if i = j then x else s.leg j := look_put ..
@[simp] theorem State.leg_setLeg_ne (i j : Leg) (x : LegState) (h : j ≠ i) : (s.setLeg i x).leg j = s.leg j := look_put_ne _ _ _ _ h
@[simp] theorem State.setLeg_table (i : Leg) (x : LegState) : (s.setLeg i x).table = s.table := rfl
@[simp] theorem State.setLeg_crcs (i : Leg) (x : LegState) : (s.setLeg i x).crcs = s.crcs := rfl
@[simp] theorem State.setLeg_ports (i : Leg) (x : LegState) : (s.setLeg i x).ports = s.ports := rfl
@[simp] theorem State.setLeg_locks (i : Leg) (x : LegState) : (s.setLeg i x).locks = s.locks := rfl
@[simp] theorem State.setLeg_subscriberCount (i : Leg) (x : LegState) : (s.setLeg i x).subscriberCount = s.subscriberCount := rfl
@[simp] theorem State.setLeg_composition (i : Leg) (x : LegState) : (s.setLeg i x).composition = s.composition := rfl
@[simp] theorem State.setLeg_slots (i : Leg) (x : LegState) : (s.setLeg i x).slots = s.slots := rfl
@[simp] theorem State.setLeg_sources (i : Leg) (x : LegState) : (s.setLeg i x).sources = s.sources := rfl
@[simp] theorem State.setLeg_matrix (i : Leg) (x : LegState) : (s.setLeg i x).matrix = s.matrix := rfl
@[simp] theorem State.setLeg_roots (i : Leg) (x : LegState) : (s.setLeg i x).roots = s.roots := rfl
@[simp] theorem State.setLeg_alarms (i : Leg) (x : LegState) : (s.setLeg i x).alarms = s.alarms := rfl
@[simp] theorem State.setLeg_spaceLow (i : Leg) (x : LegState) : (s.setLeg i x).spaceLow = s.spaceLow := rfl
@[simp] theorem State.setLeg_clock (i : Leg) (x : LegState) : (s.setLeg i x).clock = s.clock := rfl
@[simp] theorem State.setLeg_power (i : Leg) (x : LegState) : (s.setLeg i x).power = s.power := rfl
@[simp] theorem State.setLeg_inReset (i : Leg) (x : LegState) : (s.setLeg i x).inReset = s.inReset := rfl
@[simp] theorem State.setLeg_startKind (i : Leg) (x : LegState) : (s.setLeg i x).startKind = s.startKind := rfl
@[simp] theorem State.setLeg_freeIndex (i : Leg) (x : LegState) : (s.setLeg i x).freeIndex = s.freeIndex := rfl
@[simp] theorem State.setLeg_pending (i : Leg) (x : LegState) : (s.setLeg i x).pending = s.pending := rfl
@[simp] theorem State.port_setLeg (i : Leg) (x : LegState) (j : Port) : (s.setLeg i x).port j = s.port j := rfl
@[simp] theorem State.lock_setLeg (i : Leg) (x : LegState) (j : LockNo) : (s.setLeg i x).lock j = s.lock j := rfl
@[simp] theorem State.sub_setLeg (i : Leg) (x : LegState) (j : Drop) : (s.setLeg i x).sub j = s.sub j := rfl
@[simp] theorem State.unit_setLeg (i : Leg) (x : LegState) (j : UnitNo) : (s.setLeg i x).unit j = s.unit j := rfl
@[simp] theorem State.node_setLeg (i : Leg) (x : LegState) (j : NodeNo) : (s.setLeg i x).node j = s.node j := rfl
@[simp] theorem State.root_setLeg (i : Leg) (x : LegState) (j : Leg) : (s.setLeg i x).root j = s.root j := rfl
@[simp] theorem State.slot_setLeg (i : Leg) (x : LegState) (j : Slot) : (s.setLeg i x).slot j = s.slot j := rfl
@[simp] theorem State.source_setLeg (i : Leg) (x : LegState) (j : Source) : (s.setLeg i x).source j = s.source j := rfl
@[simp] theorem State.monitor_setLeg (i : Leg) (x : LegState) (j : Source) : (s.setLeg i x).monitor j = s.monitor j := rfl
@[simp] theorem State.legSettings_setLeg (i : Leg) (x : LegState) (j : Leg) : (s.setLeg i x).legSettings j = s.legSettings j := rfl
@[simp] theorem State.run_setLeg (i : Leg) (x : LegState) (j : Leg) : (s.setLeg i x).run j = s.run j := rfl
@[simp] theorem State.now_setLeg (i : Leg) (x : LegState) : (s.setLeg i x).now = s.now := rfl

/-! ## State.setLegSettings -/

@[simp] theorem State.legSettings_setLegSettings_self (i : Leg) (x : LegSettings) : (s.setLegSettings i x).legSettings i = x := look_put_self ..
theorem State.legSettings_setLegSettings (i j : Leg) (x : LegSettings) : (s.setLegSettings i x).legSettings j = if i = j then x else s.legSettings j := look_put ..
@[simp] theorem State.legSettings_setLegSettings_ne (i j : Leg) (x : LegSettings) (h : j ≠ i) : (s.setLegSettings i x).legSettings j = s.legSettings j := look_put_ne _ _ _ _ h
@[simp] theorem State.setLegSettings_crcs (i : Leg) (x : LegSettings) : (s.setLegSettings i x).crcs = s.crcs := rfl
@[simp] theorem State.setLegSettings_ports (i : Leg) (x : LegSettings) : (s.setLegSettings i x).ports = s.ports := rfl
@[simp] theorem State.setLegSettings_locks (i : Leg) (x : LegSettings) : (s.setLegSettings i x).locks = s.locks := rfl
@[simp] theorem State.setLegSettings_subscriberCount (i : Leg) (x : LegSettings) : (s.setLegSettings i x).subscriberCount = s.subscriberCount := rfl
@[simp] theorem State.setLegSettings_composition (i : Leg) (x : LegSettings) : (s.setLegSettings i x).composition = s.composition := rfl
@[simp] theorem State.setLegSettings_slots (i : Leg) (x : LegSettings) : (s.setLegSettings i x).slots = s.slots := rfl
@[simp] theorem State.setLegSettings_sources (i : Leg) (x : LegSettings) : (s.setLegSettings i x).sources = s.sources := rfl
@[simp] theorem State.setLegSettings_matrix (i : Leg) (x : LegSettings) : (s.setLegSettings i x).matrix = s.matrix := rfl
@[simp] theorem State.setLegSettings_legs (i : Leg) (x : LegSettings) : (s.setLegSettings i x).legs = s.legs := rfl
@[simp] theorem State.setLegSettings_roots (i : Leg) (x : LegSettings) : (s.setLegSettings i x).roots = s.roots := rfl
@[simp] theorem State.setLegSettings_alarms (i : Leg) (x : LegSettings) : (s.setLegSettings i x).alarms = s.alarms := rfl
@[simp] theorem State.setLegSettings_spaceLow (i : Leg) (x : LegSettings) : (s.setLegSettings i x).spaceLow = s.spaceLow := rfl
@[simp] theorem State.setLegSettings_clock (i : Leg) (x : LegSettings) : (s.setLegSettings i x).clock = s.clock := rfl
@[simp] theorem State.setLegSettings_power (i : Leg) (x : LegSettings) : (s.setLegSettings i x).power = s.power := rfl
@[simp] theorem State.setLegSettings_inReset (i : Leg) (x : LegSettings) : (s.setLegSettings i x).inReset = s.inReset := rfl
@[simp] theorem State.setLegSettings_startKind (i : Leg) (x : LegSettings) : (s.setLegSettings i x).startKind = s.startKind := rfl
@[simp] theorem State.setLegSettings_freeIndex (i : Leg) (x : LegSettings) : (s.setLegSettings i x).freeIndex = s.freeIndex := rfl
@[simp] theorem State.setLegSettings_pending (i : Leg) (x : LegSettings) : (s.setLegSettings i x).pending = s.pending := rfl
@[simp] theorem State.setLegSettings_table_record (i : Leg) (x : LegSettings) : (s.setLegSettings i x).table.record = s.table.record := rfl
@[simp] theorem State.setLegSettings_table_lastKnown (i : Leg) (x : LegSettings) : (s.setLegSettings i x).table.lastKnown = s.table.lastKnown := rfl
@[simp] theorem State.setLegSettings_table_cycleNumber (i : Leg) (x : LegSettings) : (s.setLegSettings i x).table.cycleNumber = s.table.cycleNumber := rfl
@[simp] theorem State.setLegSettings_table_cycleStart (i : Leg) (x : LegSettings) : (s.setLegSettings i x).table.cycleStart = s.table.cycleStart := rfl
@[simp] theorem State.setLegSettings_table_close (i : Leg) (x : LegSettings) : (s.setLegSettings i x).table.close = s.table.close := rfl
@[simp] theorem State.setLegSettings_table_currentRates (i : Leg) (x : LegSettings) : (s.setLegSettings i x).table.currentRates = s.table.currentRates := rfl
@[simp] theorem State.setLegSettings_table_nextRates (i : Leg) (x : LegSettings) : (s.setLegSettings i x).table.nextRates = s.table.nextRates := rfl
@[simp] theorem State.setLegSettings_table_creditThreshold (i : Leg) (x : LegSettings) : (s.setLegSettings i x).table.creditThreshold = s.table.creditThreshold := rfl
@[simp] theorem State.setLegSettings_table_journal (i : Leg) (x : LegSettings) : (s.setLegSettings i x).table.journal = s.table.journal := rfl
@[simp] theorem State.setLegSettings_table_activation (i : Leg) (x : LegSettings) : (s.setLegSettings i x).table.activation = s.table.activation := rfl
@[simp] theorem State.setLegSettings_table_active (i : Leg) (x : LegSettings) : (s.setLegSettings i x).table.active = s.table.active := rfl
@[simp] theorem State.setLegSettings_table_pendingLineup (i : Leg) (x : LegSettings) : (s.setLegSettings i x).table.pendingLineup = s.table.pendingLineup := rfl
@[simp] theorem State.setLegSettings_table_sources (i : Leg) (x : LegSettings) : (s.setLegSettings i x).table.sources = s.table.sources := rfl
@[simp] theorem State.setLegSettings_table_run (i : Leg) (x : LegSettings) : (s.setLegSettings i x).table.run = s.table.run := rfl
@[simp] theorem State.setLegSettings_table_nodes (i : Leg) (x : LegSettings) : (s.setLegSettings i x).table.nodes = s.table.nodes := rfl
@[simp] theorem State.setLegSettings_table_units (i : Leg) (x : LegSettings) : (s.setLegSettings i x).table.units = s.table.units := rfl
@[simp] theorem State.setLegSettings_table_subs (i : Leg) (x : LegSettings) : (s.setLegSettings i x).table.subs = s.table.subs := rfl
@[simp] theorem State.port_setLegSettings (i : Leg) (x : LegSettings) (j : Port) : (s.setLegSettings i x).port j = s.port j := rfl
@[simp] theorem State.lock_setLegSettings (i : Leg) (x : LegSettings) (j : LockNo) : (s.setLegSettings i x).lock j = s.lock j := rfl
@[simp] theorem State.sub_setLegSettings (i : Leg) (x : LegSettings) (j : Drop) : (s.setLegSettings i x).sub j = s.sub j := rfl
@[simp] theorem State.unit_setLegSettings (i : Leg) (x : LegSettings) (j : UnitNo) : (s.setLegSettings i x).unit j = s.unit j := rfl
@[simp] theorem State.node_setLegSettings (i : Leg) (x : LegSettings) (j : NodeNo) : (s.setLegSettings i x).node j = s.node j := rfl
@[simp] theorem State.root_setLegSettings (i : Leg) (x : LegSettings) (j : Leg) : (s.setLegSettings i x).root j = s.root j := rfl
@[simp] theorem State.slot_setLegSettings (i : Leg) (x : LegSettings) (j : Slot) : (s.setLegSettings i x).slot j = s.slot j := rfl
@[simp] theorem State.source_setLegSettings (i : Leg) (x : LegSettings) (j : Source) : (s.setLegSettings i x).source j = s.source j := rfl
@[simp] theorem State.monitor_setLegSettings (i : Leg) (x : LegSettings) (j : Source) : (s.setLegSettings i x).monitor j = s.monitor j := rfl
@[simp] theorem State.leg_setLegSettings (i : Leg) (x : LegSettings) (j : Leg) : (s.setLegSettings i x).leg j = s.leg j := rfl
@[simp] theorem State.run_setLegSettings (i : Leg) (x : LegSettings) (j : Leg) : (s.setLegSettings i x).run j = s.run j := rfl
@[simp] theorem State.now_setLegSettings (i : Leg) (x : LegSettings) : (s.setLegSettings i x).now = s.now := rfl

/-! ## State.setRun -/

@[simp] theorem State.run_setRun_self (i : Leg) (x : RunState) : (s.setRun i x).run i = x := look_put_self ..
theorem State.run_setRun (i j : Leg) (x : RunState) : (s.setRun i x).run j = if i = j then x else s.run j := look_put ..
@[simp] theorem State.run_setRun_ne (i j : Leg) (x : RunState) (h : j ≠ i) : (s.setRun i x).run j = s.run j := look_put_ne _ _ _ _ h
@[simp] theorem State.setRun_crcs (i : Leg) (x : RunState) : (s.setRun i x).crcs = s.crcs := rfl
@[simp] theorem State.setRun_ports (i : Leg) (x : RunState) : (s.setRun i x).ports = s.ports := rfl
@[simp] theorem State.setRun_locks (i : Leg) (x : RunState) : (s.setRun i x).locks = s.locks := rfl
@[simp] theorem State.setRun_subscriberCount (i : Leg) (x : RunState) : (s.setRun i x).subscriberCount = s.subscriberCount := rfl
@[simp] theorem State.setRun_composition (i : Leg) (x : RunState) : (s.setRun i x).composition = s.composition := rfl
@[simp] theorem State.setRun_slots (i : Leg) (x : RunState) : (s.setRun i x).slots = s.slots := rfl
@[simp] theorem State.setRun_sources (i : Leg) (x : RunState) : (s.setRun i x).sources = s.sources := rfl
@[simp] theorem State.setRun_matrix (i : Leg) (x : RunState) : (s.setRun i x).matrix = s.matrix := rfl
@[simp] theorem State.setRun_legs (i : Leg) (x : RunState) : (s.setRun i x).legs = s.legs := rfl
@[simp] theorem State.setRun_roots (i : Leg) (x : RunState) : (s.setRun i x).roots = s.roots := rfl
@[simp] theorem State.setRun_alarms (i : Leg) (x : RunState) : (s.setRun i x).alarms = s.alarms := rfl
@[simp] theorem State.setRun_spaceLow (i : Leg) (x : RunState) : (s.setRun i x).spaceLow = s.spaceLow := rfl
@[simp] theorem State.setRun_clock (i : Leg) (x : RunState) : (s.setRun i x).clock = s.clock := rfl
@[simp] theorem State.setRun_power (i : Leg) (x : RunState) : (s.setRun i x).power = s.power := rfl
@[simp] theorem State.setRun_inReset (i : Leg) (x : RunState) : (s.setRun i x).inReset = s.inReset := rfl
@[simp] theorem State.setRun_startKind (i : Leg) (x : RunState) : (s.setRun i x).startKind = s.startKind := rfl
@[simp] theorem State.setRun_freeIndex (i : Leg) (x : RunState) : (s.setRun i x).freeIndex = s.freeIndex := rfl
@[simp] theorem State.setRun_pending (i : Leg) (x : RunState) : (s.setRun i x).pending = s.pending := rfl
@[simp] theorem State.setRun_table_record (i : Leg) (x : RunState) : (s.setRun i x).table.record = s.table.record := rfl
@[simp] theorem State.setRun_table_lastKnown (i : Leg) (x : RunState) : (s.setRun i x).table.lastKnown = s.table.lastKnown := rfl
@[simp] theorem State.setRun_table_cycleNumber (i : Leg) (x : RunState) : (s.setRun i x).table.cycleNumber = s.table.cycleNumber := rfl
@[simp] theorem State.setRun_table_cycleStart (i : Leg) (x : RunState) : (s.setRun i x).table.cycleStart = s.table.cycleStart := rfl
@[simp] theorem State.setRun_table_close (i : Leg) (x : RunState) : (s.setRun i x).table.close = s.table.close := rfl
@[simp] theorem State.setRun_table_currentRates (i : Leg) (x : RunState) : (s.setRun i x).table.currentRates = s.table.currentRates := rfl
@[simp] theorem State.setRun_table_nextRates (i : Leg) (x : RunState) : (s.setRun i x).table.nextRates = s.table.nextRates := rfl
@[simp] theorem State.setRun_table_creditThreshold (i : Leg) (x : RunState) : (s.setRun i x).table.creditThreshold = s.table.creditThreshold := rfl
@[simp] theorem State.setRun_table_journal (i : Leg) (x : RunState) : (s.setRun i x).table.journal = s.table.journal := rfl
@[simp] theorem State.setRun_table_activation (i : Leg) (x : RunState) : (s.setRun i x).table.activation = s.table.activation := rfl
@[simp] theorem State.setRun_table_active (i : Leg) (x : RunState) : (s.setRun i x).table.active = s.table.active := rfl
@[simp] theorem State.setRun_table_pendingLineup (i : Leg) (x : RunState) : (s.setRun i x).table.pendingLineup = s.table.pendingLineup := rfl
@[simp] theorem State.setRun_table_sources (i : Leg) (x : RunState) : (s.setRun i x).table.sources = s.table.sources := rfl
@[simp] theorem State.setRun_table_legs (i : Leg) (x : RunState) : (s.setRun i x).table.legs = s.table.legs := rfl
@[simp] theorem State.setRun_table_nodes (i : Leg) (x : RunState) : (s.setRun i x).table.nodes = s.table.nodes := rfl
@[simp] theorem State.setRun_table_units (i : Leg) (x : RunState) : (s.setRun i x).table.units = s.table.units := rfl
@[simp] theorem State.setRun_table_subs (i : Leg) (x : RunState) : (s.setRun i x).table.subs = s.table.subs := rfl
@[simp] theorem State.port_setRun (i : Leg) (x : RunState) (j : Port) : (s.setRun i x).port j = s.port j := rfl
@[simp] theorem State.lock_setRun (i : Leg) (x : RunState) (j : LockNo) : (s.setRun i x).lock j = s.lock j := rfl
@[simp] theorem State.sub_setRun (i : Leg) (x : RunState) (j : Drop) : (s.setRun i x).sub j = s.sub j := rfl
@[simp] theorem State.unit_setRun (i : Leg) (x : RunState) (j : UnitNo) : (s.setRun i x).unit j = s.unit j := rfl
@[simp] theorem State.node_setRun (i : Leg) (x : RunState) (j : NodeNo) : (s.setRun i x).node j = s.node j := rfl
@[simp] theorem State.root_setRun (i : Leg) (x : RunState) (j : Leg) : (s.setRun i x).root j = s.root j := rfl
@[simp] theorem State.slot_setRun (i : Leg) (x : RunState) (j : Slot) : (s.setRun i x).slot j = s.slot j := rfl
@[simp] theorem State.source_setRun (i : Leg) (x : RunState) (j : Source) : (s.setRun i x).source j = s.source j := rfl
@[simp] theorem State.monitor_setRun (i : Leg) (x : RunState) (j : Source) : (s.setRun i x).monitor j = s.monitor j := rfl
@[simp] theorem State.leg_setRun (i : Leg) (x : RunState) (j : Leg) : (s.setRun i x).leg j = s.leg j := rfl
@[simp] theorem State.legSettings_setRun (i : Leg) (x : RunState) (j : Leg) : (s.setRun i x).legSettings j = s.legSettings j := rfl
@[simp] theorem State.now_setRun (i : Leg) (x : RunState) : (s.setRun i x).now = s.now := rfl

/-! ## State.setTable -/

@[simp] theorem State.setTable_table (x : TableMemory) : (s.setTable x).table = x := rfl
@[simp] theorem State.setTable_crcs (x : TableMemory) : (s.setTable x).crcs = s.crcs := rfl
@[simp] theorem State.setTable_ports (x : TableMemory) : (s.setTable x).ports = s.ports := rfl
@[simp] theorem State.setTable_locks (x : TableMemory) : (s.setTable x).locks = s.locks := rfl
@[simp] theorem State.setTable_subscriberCount (x : TableMemory) : (s.setTable x).subscriberCount = s.subscriberCount := rfl
@[simp] theorem State.setTable_composition (x : TableMemory) : (s.setTable x).composition = s.composition := rfl
@[simp] theorem State.setTable_slots (x : TableMemory) : (s.setTable x).slots = s.slots := rfl
@[simp] theorem State.setTable_sources (x : TableMemory) : (s.setTable x).sources = s.sources := rfl
@[simp] theorem State.setTable_matrix (x : TableMemory) : (s.setTable x).matrix = s.matrix := rfl
@[simp] theorem State.setTable_legs (x : TableMemory) : (s.setTable x).legs = s.legs := rfl
@[simp] theorem State.setTable_roots (x : TableMemory) : (s.setTable x).roots = s.roots := rfl
@[simp] theorem State.setTable_alarms (x : TableMemory) : (s.setTable x).alarms = s.alarms := rfl
@[simp] theorem State.setTable_spaceLow (x : TableMemory) : (s.setTable x).spaceLow = s.spaceLow := rfl
@[simp] theorem State.setTable_clock (x : TableMemory) : (s.setTable x).clock = s.clock := rfl
@[simp] theorem State.setTable_power (x : TableMemory) : (s.setTable x).power = s.power := rfl
@[simp] theorem State.setTable_inReset (x : TableMemory) : (s.setTable x).inReset = s.inReset := rfl
@[simp] theorem State.setTable_startKind (x : TableMemory) : (s.setTable x).startKind = s.startKind := rfl
@[simp] theorem State.setTable_freeIndex (x : TableMemory) : (s.setTable x).freeIndex = s.freeIndex := rfl
@[simp] theorem State.setTable_pending (x : TableMemory) : (s.setTable x).pending = s.pending := rfl
@[simp] theorem State.port_setTable (x : TableMemory) (j : Port) : (s.setTable x).port j = s.port j := rfl
@[simp] theorem State.lock_setTable (x : TableMemory) (j : LockNo) : (s.setTable x).lock j = s.lock j := rfl
@[simp] theorem State.root_setTable (x : TableMemory) (j : Leg) : (s.setTable x).root j = s.root j := rfl
@[simp] theorem State.slot_setTable (x : TableMemory) (j : Slot) : (s.setTable x).slot j = s.slot j := rfl
@[simp] theorem State.source_setTable (x : TableMemory) (j : Source) : (s.setTable x).source j = s.source j := rfl
@[simp] theorem State.leg_setTable (x : TableMemory) (j : Leg) : (s.setTable x).leg j = s.leg j := rfl
@[simp] theorem State.now_setTable (x : TableMemory) : (s.setTable x).now = s.now := rfl

/-! ## State.setActivation -/

@[simp] theorem State.setActivation_table_activation (x : Activation) : (s.setActivation x).table.activation = x := rfl
@[simp] theorem State.setActivation_crcs (x : Activation) : (s.setActivation x).crcs = s.crcs := rfl
@[simp] theorem State.setActivation_ports (x : Activation) : (s.setActivation x).ports = s.ports := rfl
@[simp] theorem State.setActivation_locks (x : Activation) : (s.setActivation x).locks = s.locks := rfl
@[simp] theorem State.setActivation_subscriberCount (x : Activation) : (s.setActivation x).subscriberCount = s.subscriberCount := rfl
@[simp] theorem State.setActivation_composition (x : Activation) : (s.setActivation x).composition = s.composition := rfl
@[simp] theorem State.setActivation_slots (x : Activation) : (s.setActivation x).slots = s.slots := rfl
@[simp] theorem State.setActivation_sources (x : Activation) : (s.setActivation x).sources = s.sources := rfl
@[simp] theorem State.setActivation_matrix (x : Activation) : (s.setActivation x).matrix = s.matrix := rfl
@[simp] theorem State.setActivation_legs (x : Activation) : (s.setActivation x).legs = s.legs := rfl
@[simp] theorem State.setActivation_roots (x : Activation) : (s.setActivation x).roots = s.roots := rfl
@[simp] theorem State.setActivation_alarms (x : Activation) : (s.setActivation x).alarms = s.alarms := rfl
@[simp] theorem State.setActivation_spaceLow (x : Activation) : (s.setActivation x).spaceLow = s.spaceLow := rfl
@[simp] theorem State.setActivation_clock (x : Activation) : (s.setActivation x).clock = s.clock := rfl
@[simp] theorem State.setActivation_power (x : Activation) : (s.setActivation x).power = s.power := rfl
@[simp] theorem State.setActivation_inReset (x : Activation) : (s.setActivation x).inReset = s.inReset := rfl
@[simp] theorem State.setActivation_startKind (x : Activation) : (s.setActivation x).startKind = s.startKind := rfl
@[simp] theorem State.setActivation_freeIndex (x : Activation) : (s.setActivation x).freeIndex = s.freeIndex := rfl
@[simp] theorem State.setActivation_pending (x : Activation) : (s.setActivation x).pending = s.pending := rfl
@[simp] theorem State.setActivation_table_record (x : Activation) : (s.setActivation x).table.record = s.table.record := rfl
@[simp] theorem State.setActivation_table_lastKnown (x : Activation) : (s.setActivation x).table.lastKnown = s.table.lastKnown := rfl
@[simp] theorem State.setActivation_table_cycleNumber (x : Activation) : (s.setActivation x).table.cycleNumber = s.table.cycleNumber := rfl
@[simp] theorem State.setActivation_table_cycleStart (x : Activation) : (s.setActivation x).table.cycleStart = s.table.cycleStart := rfl
@[simp] theorem State.setActivation_table_close (x : Activation) : (s.setActivation x).table.close = s.table.close := rfl
@[simp] theorem State.setActivation_table_currentRates (x : Activation) : (s.setActivation x).table.currentRates = s.table.currentRates := rfl
@[simp] theorem State.setActivation_table_nextRates (x : Activation) : (s.setActivation x).table.nextRates = s.table.nextRates := rfl
@[simp] theorem State.setActivation_table_creditThreshold (x : Activation) : (s.setActivation x).table.creditThreshold = s.table.creditThreshold := rfl
@[simp] theorem State.setActivation_table_journal (x : Activation) : (s.setActivation x).table.journal = s.table.journal := rfl
@[simp] theorem State.setActivation_table_active (x : Activation) : (s.setActivation x).table.active = s.table.active := rfl
@[simp] theorem State.setActivation_table_pendingLineup (x : Activation) : (s.setActivation x).table.pendingLineup = s.table.pendingLineup := rfl
@[simp] theorem State.setActivation_table_sources (x : Activation) : (s.setActivation x).table.sources = s.table.sources := rfl
@[simp] theorem State.setActivation_table_legs (x : Activation) : (s.setActivation x).table.legs = s.table.legs := rfl
@[simp] theorem State.setActivation_table_run (x : Activation) : (s.setActivation x).table.run = s.table.run := rfl
@[simp] theorem State.setActivation_table_nodes (x : Activation) : (s.setActivation x).table.nodes = s.table.nodes := rfl
@[simp] theorem State.setActivation_table_units (x : Activation) : (s.setActivation x).table.units = s.table.units := rfl
@[simp] theorem State.setActivation_table_subs (x : Activation) : (s.setActivation x).table.subs = s.table.subs := rfl
@[simp] theorem State.port_setActivation (x : Activation) (j : Port) : (s.setActivation x).port j = s.port j := rfl
@[simp] theorem State.lock_setActivation (x : Activation) (j : LockNo) : (s.setActivation x).lock j = s.lock j := rfl
@[simp] theorem State.sub_setActivation (x : Activation) (j : Drop) : (s.setActivation x).sub j = s.sub j := rfl
@[simp] theorem State.unit_setActivation (x : Activation) (j : UnitNo) : (s.setActivation x).unit j = s.unit j := rfl
@[simp] theorem State.node_setActivation (x : Activation) (j : NodeNo) : (s.setActivation x).node j = s.node j := rfl
@[simp] theorem State.root_setActivation (x : Activation) (j : Leg) : (s.setActivation x).root j = s.root j := rfl
@[simp] theorem State.slot_setActivation (x : Activation) (j : Slot) : (s.setActivation x).slot j = s.slot j := rfl
@[simp] theorem State.source_setActivation (x : Activation) (j : Source) : (s.setActivation x).source j = s.source j := rfl
@[simp] theorem State.monitor_setActivation (x : Activation) (j : Source) : (s.setActivation x).monitor j = s.monitor j := rfl
@[simp] theorem State.leg_setActivation (x : Activation) (j : Leg) : (s.setActivation x).leg j = s.leg j := rfl
@[simp] theorem State.legSettings_setActivation (x : Activation) (j : Leg) : (s.setActivation x).legSettings j = s.legSettings j := rfl
@[simp] theorem State.run_setActivation (x : Activation) (j : Leg) : (s.setActivation x).run j = s.run j := rfl
@[simp] theorem State.now_setActivation (x : Activation) : (s.setActivation x).now = s.now := rfl

/-! ## State.setClose -/

@[simp] theorem State.setClose_table_close (x : CloseContext) : (s.setClose x).table.close = x := rfl
@[simp] theorem State.setClose_crcs (x : CloseContext) : (s.setClose x).crcs = s.crcs := rfl
@[simp] theorem State.setClose_ports (x : CloseContext) : (s.setClose x).ports = s.ports := rfl
@[simp] theorem State.setClose_locks (x : CloseContext) : (s.setClose x).locks = s.locks := rfl
@[simp] theorem State.setClose_subscriberCount (x : CloseContext) : (s.setClose x).subscriberCount = s.subscriberCount := rfl
@[simp] theorem State.setClose_composition (x : CloseContext) : (s.setClose x).composition = s.composition := rfl
@[simp] theorem State.setClose_slots (x : CloseContext) : (s.setClose x).slots = s.slots := rfl
@[simp] theorem State.setClose_sources (x : CloseContext) : (s.setClose x).sources = s.sources := rfl
@[simp] theorem State.setClose_matrix (x : CloseContext) : (s.setClose x).matrix = s.matrix := rfl
@[simp] theorem State.setClose_legs (x : CloseContext) : (s.setClose x).legs = s.legs := rfl
@[simp] theorem State.setClose_roots (x : CloseContext) : (s.setClose x).roots = s.roots := rfl
@[simp] theorem State.setClose_alarms (x : CloseContext) : (s.setClose x).alarms = s.alarms := rfl
@[simp] theorem State.setClose_spaceLow (x : CloseContext) : (s.setClose x).spaceLow = s.spaceLow := rfl
@[simp] theorem State.setClose_clock (x : CloseContext) : (s.setClose x).clock = s.clock := rfl
@[simp] theorem State.setClose_power (x : CloseContext) : (s.setClose x).power = s.power := rfl
@[simp] theorem State.setClose_inReset (x : CloseContext) : (s.setClose x).inReset = s.inReset := rfl
@[simp] theorem State.setClose_startKind (x : CloseContext) : (s.setClose x).startKind = s.startKind := rfl
@[simp] theorem State.setClose_freeIndex (x : CloseContext) : (s.setClose x).freeIndex = s.freeIndex := rfl
@[simp] theorem State.setClose_pending (x : CloseContext) : (s.setClose x).pending = s.pending := rfl
@[simp] theorem State.setClose_table_record (x : CloseContext) : (s.setClose x).table.record = s.table.record := rfl
@[simp] theorem State.setClose_table_lastKnown (x : CloseContext) : (s.setClose x).table.lastKnown = s.table.lastKnown := rfl
@[simp] theorem State.setClose_table_cycleNumber (x : CloseContext) : (s.setClose x).table.cycleNumber = s.table.cycleNumber := rfl
@[simp] theorem State.setClose_table_cycleStart (x : CloseContext) : (s.setClose x).table.cycleStart = s.table.cycleStart := rfl
@[simp] theorem State.setClose_table_currentRates (x : CloseContext) : (s.setClose x).table.currentRates = s.table.currentRates := rfl
@[simp] theorem State.setClose_table_nextRates (x : CloseContext) : (s.setClose x).table.nextRates = s.table.nextRates := rfl
@[simp] theorem State.setClose_table_creditThreshold (x : CloseContext) : (s.setClose x).table.creditThreshold = s.table.creditThreshold := rfl
@[simp] theorem State.setClose_table_journal (x : CloseContext) : (s.setClose x).table.journal = s.table.journal := rfl
@[simp] theorem State.setClose_table_activation (x : CloseContext) : (s.setClose x).table.activation = s.table.activation := rfl
@[simp] theorem State.setClose_table_active (x : CloseContext) : (s.setClose x).table.active = s.table.active := rfl
@[simp] theorem State.setClose_table_pendingLineup (x : CloseContext) : (s.setClose x).table.pendingLineup = s.table.pendingLineup := rfl
@[simp] theorem State.setClose_table_sources (x : CloseContext) : (s.setClose x).table.sources = s.table.sources := rfl
@[simp] theorem State.setClose_table_legs (x : CloseContext) : (s.setClose x).table.legs = s.table.legs := rfl
@[simp] theorem State.setClose_table_run (x : CloseContext) : (s.setClose x).table.run = s.table.run := rfl
@[simp] theorem State.setClose_table_nodes (x : CloseContext) : (s.setClose x).table.nodes = s.table.nodes := rfl
@[simp] theorem State.setClose_table_units (x : CloseContext) : (s.setClose x).table.units = s.table.units := rfl
@[simp] theorem State.setClose_table_subs (x : CloseContext) : (s.setClose x).table.subs = s.table.subs := rfl
@[simp] theorem State.port_setClose (x : CloseContext) (j : Port) : (s.setClose x).port j = s.port j := rfl
@[simp] theorem State.lock_setClose (x : CloseContext) (j : LockNo) : (s.setClose x).lock j = s.lock j := rfl
@[simp] theorem State.sub_setClose (x : CloseContext) (j : Drop) : (s.setClose x).sub j = s.sub j := rfl
@[simp] theorem State.unit_setClose (x : CloseContext) (j : UnitNo) : (s.setClose x).unit j = s.unit j := rfl
@[simp] theorem State.node_setClose (x : CloseContext) (j : NodeNo) : (s.setClose x).node j = s.node j := rfl
@[simp] theorem State.root_setClose (x : CloseContext) (j : Leg) : (s.setClose x).root j = s.root j := rfl
@[simp] theorem State.slot_setClose (x : CloseContext) (j : Slot) : (s.setClose x).slot j = s.slot j := rfl
@[simp] theorem State.source_setClose (x : CloseContext) (j : Source) : (s.setClose x).source j = s.source j := rfl
@[simp] theorem State.monitor_setClose (x : CloseContext) (j : Source) : (s.setClose x).monitor j = s.monitor j := rfl
@[simp] theorem State.leg_setClose (x : CloseContext) (j : Leg) : (s.setClose x).leg j = s.leg j := rfl
@[simp] theorem State.legSettings_setClose (x : CloseContext) (j : Leg) : (s.setClose x).legSettings j = s.legSettings j := rfl
@[simp] theorem State.run_setClose (x : CloseContext) (j : Leg) : (s.setClose x).run j = s.run j := rfl
@[simp] theorem State.now_setClose (x : CloseContext) : (s.setClose x).now = s.now := rfl

/-! ## State.setJournal -/

@[simp] theorem State.setJournal_table_journal (x : Journal) : (s.setJournal x).table.journal = x := rfl
@[simp] theorem State.setJournal_crcs (x : Journal) : (s.setJournal x).crcs = s.crcs := rfl
@[simp] theorem State.setJournal_ports (x : Journal) : (s.setJournal x).ports = s.ports := rfl
@[simp] theorem State.setJournal_locks (x : Journal) : (s.setJournal x).locks = s.locks := rfl
@[simp] theorem State.setJournal_subscriberCount (x : Journal) : (s.setJournal x).subscriberCount = s.subscriberCount := rfl
@[simp] theorem State.setJournal_composition (x : Journal) : (s.setJournal x).composition = s.composition := rfl
@[simp] theorem State.setJournal_slots (x : Journal) : (s.setJournal x).slots = s.slots := rfl
@[simp] theorem State.setJournal_sources (x : Journal) : (s.setJournal x).sources = s.sources := rfl
@[simp] theorem State.setJournal_matrix (x : Journal) : (s.setJournal x).matrix = s.matrix := rfl
@[simp] theorem State.setJournal_legs (x : Journal) : (s.setJournal x).legs = s.legs := rfl
@[simp] theorem State.setJournal_roots (x : Journal) : (s.setJournal x).roots = s.roots := rfl
@[simp] theorem State.setJournal_alarms (x : Journal) : (s.setJournal x).alarms = s.alarms := rfl
@[simp] theorem State.setJournal_spaceLow (x : Journal) : (s.setJournal x).spaceLow = s.spaceLow := rfl
@[simp] theorem State.setJournal_clock (x : Journal) : (s.setJournal x).clock = s.clock := rfl
@[simp] theorem State.setJournal_power (x : Journal) : (s.setJournal x).power = s.power := rfl
@[simp] theorem State.setJournal_inReset (x : Journal) : (s.setJournal x).inReset = s.inReset := rfl
@[simp] theorem State.setJournal_startKind (x : Journal) : (s.setJournal x).startKind = s.startKind := rfl
@[simp] theorem State.setJournal_freeIndex (x : Journal) : (s.setJournal x).freeIndex = s.freeIndex := rfl
@[simp] theorem State.setJournal_pending (x : Journal) : (s.setJournal x).pending = s.pending := rfl
@[simp] theorem State.setJournal_table_record (x : Journal) : (s.setJournal x).table.record = s.table.record := rfl
@[simp] theorem State.setJournal_table_lastKnown (x : Journal) : (s.setJournal x).table.lastKnown = s.table.lastKnown := rfl
@[simp] theorem State.setJournal_table_cycleNumber (x : Journal) : (s.setJournal x).table.cycleNumber = s.table.cycleNumber := rfl
@[simp] theorem State.setJournal_table_cycleStart (x : Journal) : (s.setJournal x).table.cycleStart = s.table.cycleStart := rfl
@[simp] theorem State.setJournal_table_close (x : Journal) : (s.setJournal x).table.close = s.table.close := rfl
@[simp] theorem State.setJournal_table_currentRates (x : Journal) : (s.setJournal x).table.currentRates = s.table.currentRates := rfl
@[simp] theorem State.setJournal_table_nextRates (x : Journal) : (s.setJournal x).table.nextRates = s.table.nextRates := rfl
@[simp] theorem State.setJournal_table_creditThreshold (x : Journal) : (s.setJournal x).table.creditThreshold = s.table.creditThreshold := rfl
@[simp] theorem State.setJournal_table_activation (x : Journal) : (s.setJournal x).table.activation = s.table.activation := rfl
@[simp] theorem State.setJournal_table_active (x : Journal) : (s.setJournal x).table.active = s.table.active := rfl
@[simp] theorem State.setJournal_table_pendingLineup (x : Journal) : (s.setJournal x).table.pendingLineup = s.table.pendingLineup := rfl
@[simp] theorem State.setJournal_table_sources (x : Journal) : (s.setJournal x).table.sources = s.table.sources := rfl
@[simp] theorem State.setJournal_table_legs (x : Journal) : (s.setJournal x).table.legs = s.table.legs := rfl
@[simp] theorem State.setJournal_table_run (x : Journal) : (s.setJournal x).table.run = s.table.run := rfl
@[simp] theorem State.setJournal_table_nodes (x : Journal) : (s.setJournal x).table.nodes = s.table.nodes := rfl
@[simp] theorem State.setJournal_table_units (x : Journal) : (s.setJournal x).table.units = s.table.units := rfl
@[simp] theorem State.setJournal_table_subs (x : Journal) : (s.setJournal x).table.subs = s.table.subs := rfl
@[simp] theorem State.port_setJournal (x : Journal) (j : Port) : (s.setJournal x).port j = s.port j := rfl
@[simp] theorem State.lock_setJournal (x : Journal) (j : LockNo) : (s.setJournal x).lock j = s.lock j := rfl
@[simp] theorem State.sub_setJournal (x : Journal) (j : Drop) : (s.setJournal x).sub j = s.sub j := rfl
@[simp] theorem State.unit_setJournal (x : Journal) (j : UnitNo) : (s.setJournal x).unit j = s.unit j := rfl
@[simp] theorem State.node_setJournal (x : Journal) (j : NodeNo) : (s.setJournal x).node j = s.node j := rfl
@[simp] theorem State.root_setJournal (x : Journal) (j : Leg) : (s.setJournal x).root j = s.root j := rfl
@[simp] theorem State.slot_setJournal (x : Journal) (j : Slot) : (s.setJournal x).slot j = s.slot j := rfl
@[simp] theorem State.source_setJournal (x : Journal) (j : Source) : (s.setJournal x).source j = s.source j := rfl
@[simp] theorem State.monitor_setJournal (x : Journal) (j : Source) : (s.setJournal x).monitor j = s.monitor j := rfl
@[simp] theorem State.leg_setJournal (x : Journal) (j : Leg) : (s.setJournal x).leg j = s.leg j := rfl
@[simp] theorem State.legSettings_setJournal (x : Journal) (j : Leg) : (s.setJournal x).legSettings j = s.legSettings j := rfl
@[simp] theorem State.run_setJournal (x : Journal) (j : Leg) : (s.setJournal x).run j = s.run j := rfl
@[simp] theorem State.now_setJournal (x : Journal) : (s.setJournal x).now = s.now := rfl

/-! ## State.setLastKnown -/

@[simp] theorem State.setLastKnown_table_lastKnown (x : Nat) : (s.setLastKnown x).table.lastKnown = x := rfl
@[simp] theorem State.setLastKnown_crcs (x : Nat) : (s.setLastKnown x).crcs = s.crcs := rfl
@[simp] theorem State.setLastKnown_ports (x : Nat) : (s.setLastKnown x).ports = s.ports := rfl
@[simp] theorem State.setLastKnown_locks (x : Nat) : (s.setLastKnown x).locks = s.locks := rfl
@[simp] theorem State.setLastKnown_subscriberCount (x : Nat) : (s.setLastKnown x).subscriberCount = s.subscriberCount := rfl
@[simp] theorem State.setLastKnown_composition (x : Nat) : (s.setLastKnown x).composition = s.composition := rfl
@[simp] theorem State.setLastKnown_slots (x : Nat) : (s.setLastKnown x).slots = s.slots := rfl
@[simp] theorem State.setLastKnown_sources (x : Nat) : (s.setLastKnown x).sources = s.sources := rfl
@[simp] theorem State.setLastKnown_matrix (x : Nat) : (s.setLastKnown x).matrix = s.matrix := rfl
@[simp] theorem State.setLastKnown_legs (x : Nat) : (s.setLastKnown x).legs = s.legs := rfl
@[simp] theorem State.setLastKnown_roots (x : Nat) : (s.setLastKnown x).roots = s.roots := rfl
@[simp] theorem State.setLastKnown_alarms (x : Nat) : (s.setLastKnown x).alarms = s.alarms := rfl
@[simp] theorem State.setLastKnown_spaceLow (x : Nat) : (s.setLastKnown x).spaceLow = s.spaceLow := rfl
@[simp] theorem State.setLastKnown_clock (x : Nat) : (s.setLastKnown x).clock = s.clock := rfl
@[simp] theorem State.setLastKnown_power (x : Nat) : (s.setLastKnown x).power = s.power := rfl
@[simp] theorem State.setLastKnown_inReset (x : Nat) : (s.setLastKnown x).inReset = s.inReset := rfl
@[simp] theorem State.setLastKnown_startKind (x : Nat) : (s.setLastKnown x).startKind = s.startKind := rfl
@[simp] theorem State.setLastKnown_freeIndex (x : Nat) : (s.setLastKnown x).freeIndex = s.freeIndex := rfl
@[simp] theorem State.setLastKnown_pending (x : Nat) : (s.setLastKnown x).pending = s.pending := rfl
@[simp] theorem State.setLastKnown_table_record (x : Nat) : (s.setLastKnown x).table.record = s.table.record := rfl
@[simp] theorem State.setLastKnown_table_cycleNumber (x : Nat) : (s.setLastKnown x).table.cycleNumber = s.table.cycleNumber := rfl
@[simp] theorem State.setLastKnown_table_cycleStart (x : Nat) : (s.setLastKnown x).table.cycleStart = s.table.cycleStart := rfl
@[simp] theorem State.setLastKnown_table_close (x : Nat) : (s.setLastKnown x).table.close = s.table.close := rfl
@[simp] theorem State.setLastKnown_table_currentRates (x : Nat) : (s.setLastKnown x).table.currentRates = s.table.currentRates := rfl
@[simp] theorem State.setLastKnown_table_nextRates (x : Nat) : (s.setLastKnown x).table.nextRates = s.table.nextRates := rfl
@[simp] theorem State.setLastKnown_table_creditThreshold (x : Nat) : (s.setLastKnown x).table.creditThreshold = s.table.creditThreshold := rfl
@[simp] theorem State.setLastKnown_table_journal (x : Nat) : (s.setLastKnown x).table.journal = s.table.journal := rfl
@[simp] theorem State.setLastKnown_table_activation (x : Nat) : (s.setLastKnown x).table.activation = s.table.activation := rfl
@[simp] theorem State.setLastKnown_table_active (x : Nat) : (s.setLastKnown x).table.active = s.table.active := rfl
@[simp] theorem State.setLastKnown_table_pendingLineup (x : Nat) : (s.setLastKnown x).table.pendingLineup = s.table.pendingLineup := rfl
@[simp] theorem State.setLastKnown_table_sources (x : Nat) : (s.setLastKnown x).table.sources = s.table.sources := rfl
@[simp] theorem State.setLastKnown_table_legs (x : Nat) : (s.setLastKnown x).table.legs = s.table.legs := rfl
@[simp] theorem State.setLastKnown_table_run (x : Nat) : (s.setLastKnown x).table.run = s.table.run := rfl
@[simp] theorem State.setLastKnown_table_nodes (x : Nat) : (s.setLastKnown x).table.nodes = s.table.nodes := rfl
@[simp] theorem State.setLastKnown_table_units (x : Nat) : (s.setLastKnown x).table.units = s.table.units := rfl
@[simp] theorem State.setLastKnown_table_subs (x : Nat) : (s.setLastKnown x).table.subs = s.table.subs := rfl
@[simp] theorem State.port_setLastKnown (x : Nat) (j : Port) : (s.setLastKnown x).port j = s.port j := rfl
@[simp] theorem State.lock_setLastKnown (x : Nat) (j : LockNo) : (s.setLastKnown x).lock j = s.lock j := rfl
@[simp] theorem State.sub_setLastKnown (x : Nat) (j : Drop) : (s.setLastKnown x).sub j = s.sub j := rfl
@[simp] theorem State.unit_setLastKnown (x : Nat) (j : UnitNo) : (s.setLastKnown x).unit j = s.unit j := rfl
@[simp] theorem State.node_setLastKnown (x : Nat) (j : NodeNo) : (s.setLastKnown x).node j = s.node j := rfl
@[simp] theorem State.root_setLastKnown (x : Nat) (j : Leg) : (s.setLastKnown x).root j = s.root j := rfl
@[simp] theorem State.slot_setLastKnown (x : Nat) (j : Slot) : (s.setLastKnown x).slot j = s.slot j := rfl
@[simp] theorem State.source_setLastKnown (x : Nat) (j : Source) : (s.setLastKnown x).source j = s.source j := rfl
@[simp] theorem State.monitor_setLastKnown (x : Nat) (j : Source) : (s.setLastKnown x).monitor j = s.monitor j := rfl
@[simp] theorem State.leg_setLastKnown (x : Nat) (j : Leg) : (s.setLastKnown x).leg j = s.leg j := rfl
@[simp] theorem State.legSettings_setLastKnown (x : Nat) (j : Leg) : (s.setLastKnown x).legSettings j = s.legSettings j := rfl
@[simp] theorem State.run_setLastKnown (x : Nat) (j : Leg) : (s.setLastKnown x).run j = s.run j := rfl
@[simp] theorem State.now_setLastKnown (x : Nat) : (s.setLastKnown x).now = s.now := rfl

/-! ## State.setCount -/

@[simp] theorem State.setCount_subscriberCount (x : Nat) : (s.setCount x).subscriberCount = x := rfl
@[simp] theorem State.setCount_table (x : Nat) : (s.setCount x).table = s.table := rfl
@[simp] theorem State.setCount_crcs (x : Nat) : (s.setCount x).crcs = s.crcs := rfl
@[simp] theorem State.setCount_ports (x : Nat) : (s.setCount x).ports = s.ports := rfl
@[simp] theorem State.setCount_locks (x : Nat) : (s.setCount x).locks = s.locks := rfl
@[simp] theorem State.setCount_composition (x : Nat) : (s.setCount x).composition = s.composition := rfl
@[simp] theorem State.setCount_slots (x : Nat) : (s.setCount x).slots = s.slots := rfl
@[simp] theorem State.setCount_sources (x : Nat) : (s.setCount x).sources = s.sources := rfl
@[simp] theorem State.setCount_matrix (x : Nat) : (s.setCount x).matrix = s.matrix := rfl
@[simp] theorem State.setCount_legs (x : Nat) : (s.setCount x).legs = s.legs := rfl
@[simp] theorem State.setCount_roots (x : Nat) : (s.setCount x).roots = s.roots := rfl
@[simp] theorem State.setCount_alarms (x : Nat) : (s.setCount x).alarms = s.alarms := rfl
@[simp] theorem State.setCount_spaceLow (x : Nat) : (s.setCount x).spaceLow = s.spaceLow := rfl
@[simp] theorem State.setCount_clock (x : Nat) : (s.setCount x).clock = s.clock := rfl
@[simp] theorem State.setCount_power (x : Nat) : (s.setCount x).power = s.power := rfl
@[simp] theorem State.setCount_inReset (x : Nat) : (s.setCount x).inReset = s.inReset := rfl
@[simp] theorem State.setCount_startKind (x : Nat) : (s.setCount x).startKind = s.startKind := rfl
@[simp] theorem State.setCount_freeIndex (x : Nat) : (s.setCount x).freeIndex = s.freeIndex := rfl
@[simp] theorem State.setCount_pending (x : Nat) : (s.setCount x).pending = s.pending := rfl
@[simp] theorem State.port_setCount (x : Nat) (j : Port) : (s.setCount x).port j = s.port j := rfl
@[simp] theorem State.lock_setCount (x : Nat) (j : LockNo) : (s.setCount x).lock j = s.lock j := rfl
@[simp] theorem State.sub_setCount (x : Nat) (j : Drop) : (s.setCount x).sub j = s.sub j := rfl
@[simp] theorem State.unit_setCount (x : Nat) (j : UnitNo) : (s.setCount x).unit j = s.unit j := rfl
@[simp] theorem State.node_setCount (x : Nat) (j : NodeNo) : (s.setCount x).node j = s.node j := rfl
@[simp] theorem State.root_setCount (x : Nat) (j : Leg) : (s.setCount x).root j = s.root j := rfl
@[simp] theorem State.slot_setCount (x : Nat) (j : Slot) : (s.setCount x).slot j = s.slot j := rfl
@[simp] theorem State.source_setCount (x : Nat) (j : Source) : (s.setCount x).source j = s.source j := rfl
@[simp] theorem State.monitor_setCount (x : Nat) (j : Source) : (s.setCount x).monitor j = s.monitor j := rfl
@[simp] theorem State.leg_setCount (x : Nat) (j : Leg) : (s.setCount x).leg j = s.leg j := rfl
@[simp] theorem State.legSettings_setCount (x : Nat) (j : Leg) : (s.setCount x).legSettings j = s.legSettings j := rfl
@[simp] theorem State.run_setCount (x : Nat) (j : Leg) : (s.setCount x).run j = s.run j := rfl
@[simp] theorem State.now_setCount (x : Nat) : (s.setCount x).now = s.now := rfl

/-! ## State.setComposition -/

@[simp] theorem State.setComposition_composition (x : Composition) : (s.setComposition x).composition = x := rfl
@[simp] theorem State.setComposition_table (x : Composition) : (s.setComposition x).table = s.table := rfl
@[simp] theorem State.setComposition_crcs (x : Composition) : (s.setComposition x).crcs = s.crcs := rfl
@[simp] theorem State.setComposition_ports (x : Composition) : (s.setComposition x).ports = s.ports := rfl
@[simp] theorem State.setComposition_locks (x : Composition) : (s.setComposition x).locks = s.locks := rfl
@[simp] theorem State.setComposition_subscriberCount (x : Composition) : (s.setComposition x).subscriberCount = s.subscriberCount := rfl
@[simp] theorem State.setComposition_slots (x : Composition) : (s.setComposition x).slots = s.slots := rfl
@[simp] theorem State.setComposition_sources (x : Composition) : (s.setComposition x).sources = s.sources := rfl
@[simp] theorem State.setComposition_matrix (x : Composition) : (s.setComposition x).matrix = s.matrix := rfl
@[simp] theorem State.setComposition_legs (x : Composition) : (s.setComposition x).legs = s.legs := rfl
@[simp] theorem State.setComposition_roots (x : Composition) : (s.setComposition x).roots = s.roots := rfl
@[simp] theorem State.setComposition_alarms (x : Composition) : (s.setComposition x).alarms = s.alarms := rfl
@[simp] theorem State.setComposition_spaceLow (x : Composition) : (s.setComposition x).spaceLow = s.spaceLow := rfl
@[simp] theorem State.setComposition_clock (x : Composition) : (s.setComposition x).clock = s.clock := rfl
@[simp] theorem State.setComposition_power (x : Composition) : (s.setComposition x).power = s.power := rfl
@[simp] theorem State.setComposition_inReset (x : Composition) : (s.setComposition x).inReset = s.inReset := rfl
@[simp] theorem State.setComposition_startKind (x : Composition) : (s.setComposition x).startKind = s.startKind := rfl
@[simp] theorem State.setComposition_freeIndex (x : Composition) : (s.setComposition x).freeIndex = s.freeIndex := rfl
@[simp] theorem State.setComposition_pending (x : Composition) : (s.setComposition x).pending = s.pending := rfl
@[simp] theorem State.port_setComposition (x : Composition) (j : Port) : (s.setComposition x).port j = s.port j := rfl
@[simp] theorem State.lock_setComposition (x : Composition) (j : LockNo) : (s.setComposition x).lock j = s.lock j := rfl
@[simp] theorem State.sub_setComposition (x : Composition) (j : Drop) : (s.setComposition x).sub j = s.sub j := rfl
@[simp] theorem State.unit_setComposition (x : Composition) (j : UnitNo) : (s.setComposition x).unit j = s.unit j := rfl
@[simp] theorem State.node_setComposition (x : Composition) (j : NodeNo) : (s.setComposition x).node j = s.node j := rfl
@[simp] theorem State.root_setComposition (x : Composition) (j : Leg) : (s.setComposition x).root j = s.root j := rfl
@[simp] theorem State.slot_setComposition (x : Composition) (j : Slot) : (s.setComposition x).slot j = s.slot j := rfl
@[simp] theorem State.source_setComposition (x : Composition) (j : Source) : (s.setComposition x).source j = s.source j := rfl
@[simp] theorem State.monitor_setComposition (x : Composition) (j : Source) : (s.setComposition x).monitor j = s.monitor j := rfl
@[simp] theorem State.leg_setComposition (x : Composition) (j : Leg) : (s.setComposition x).leg j = s.leg j := rfl
@[simp] theorem State.legSettings_setComposition (x : Composition) (j : Leg) : (s.setComposition x).legSettings j = s.legSettings j := rfl
@[simp] theorem State.run_setComposition (x : Composition) (j : Leg) : (s.setComposition x).run j = s.run j := rfl
@[simp] theorem State.now_setComposition (x : Composition) : (s.setComposition x).now = s.now := rfl

/-! ## State.setMatrix -/

@[simp] theorem State.setMatrix_matrix (x : Matrix) : (s.setMatrix x).matrix = x := rfl
@[simp] theorem State.setMatrix_table (x : Matrix) : (s.setMatrix x).table = s.table := rfl
@[simp] theorem State.setMatrix_crcs (x : Matrix) : (s.setMatrix x).crcs = s.crcs := rfl
@[simp] theorem State.setMatrix_ports (x : Matrix) : (s.setMatrix x).ports = s.ports := rfl
@[simp] theorem State.setMatrix_locks (x : Matrix) : (s.setMatrix x).locks = s.locks := rfl
@[simp] theorem State.setMatrix_subscriberCount (x : Matrix) : (s.setMatrix x).subscriberCount = s.subscriberCount := rfl
@[simp] theorem State.setMatrix_composition (x : Matrix) : (s.setMatrix x).composition = s.composition := rfl
@[simp] theorem State.setMatrix_slots (x : Matrix) : (s.setMatrix x).slots = s.slots := rfl
@[simp] theorem State.setMatrix_sources (x : Matrix) : (s.setMatrix x).sources = s.sources := rfl
@[simp] theorem State.setMatrix_legs (x : Matrix) : (s.setMatrix x).legs = s.legs := rfl
@[simp] theorem State.setMatrix_roots (x : Matrix) : (s.setMatrix x).roots = s.roots := rfl
@[simp] theorem State.setMatrix_alarms (x : Matrix) : (s.setMatrix x).alarms = s.alarms := rfl
@[simp] theorem State.setMatrix_spaceLow (x : Matrix) : (s.setMatrix x).spaceLow = s.spaceLow := rfl
@[simp] theorem State.setMatrix_clock (x : Matrix) : (s.setMatrix x).clock = s.clock := rfl
@[simp] theorem State.setMatrix_power (x : Matrix) : (s.setMatrix x).power = s.power := rfl
@[simp] theorem State.setMatrix_inReset (x : Matrix) : (s.setMatrix x).inReset = s.inReset := rfl
@[simp] theorem State.setMatrix_startKind (x : Matrix) : (s.setMatrix x).startKind = s.startKind := rfl
@[simp] theorem State.setMatrix_freeIndex (x : Matrix) : (s.setMatrix x).freeIndex = s.freeIndex := rfl
@[simp] theorem State.setMatrix_pending (x : Matrix) : (s.setMatrix x).pending = s.pending := rfl
@[simp] theorem State.port_setMatrix (x : Matrix) (j : Port) : (s.setMatrix x).port j = s.port j := rfl
@[simp] theorem State.lock_setMatrix (x : Matrix) (j : LockNo) : (s.setMatrix x).lock j = s.lock j := rfl
@[simp] theorem State.sub_setMatrix (x : Matrix) (j : Drop) : (s.setMatrix x).sub j = s.sub j := rfl
@[simp] theorem State.unit_setMatrix (x : Matrix) (j : UnitNo) : (s.setMatrix x).unit j = s.unit j := rfl
@[simp] theorem State.node_setMatrix (x : Matrix) (j : NodeNo) : (s.setMatrix x).node j = s.node j := rfl
@[simp] theorem State.root_setMatrix (x : Matrix) (j : Leg) : (s.setMatrix x).root j = s.root j := rfl
@[simp] theorem State.slot_setMatrix (x : Matrix) (j : Slot) : (s.setMatrix x).slot j = s.slot j := rfl
@[simp] theorem State.source_setMatrix (x : Matrix) (j : Source) : (s.setMatrix x).source j = s.source j := rfl
@[simp] theorem State.monitor_setMatrix (x : Matrix) (j : Source) : (s.setMatrix x).monitor j = s.monitor j := rfl
@[simp] theorem State.leg_setMatrix (x : Matrix) (j : Leg) : (s.setMatrix x).leg j = s.leg j := rfl
@[simp] theorem State.legSettings_setMatrix (x : Matrix) (j : Leg) : (s.setMatrix x).legSettings j = s.legSettings j := rfl
@[simp] theorem State.run_setMatrix (x : Matrix) (j : Leg) : (s.setMatrix x).run j = s.run j := rfl
@[simp] theorem State.now_setMatrix (x : Matrix) : (s.setMatrix x).now = s.now := rfl

/-! ## State.setAlarms -/

@[simp] theorem State.setAlarms_alarms (x : AlarmList) : (s.setAlarms x).alarms = x := rfl
@[simp] theorem State.setAlarms_table (x : AlarmList) : (s.setAlarms x).table = s.table := rfl
@[simp] theorem State.setAlarms_crcs (x : AlarmList) : (s.setAlarms x).crcs = s.crcs := rfl
@[simp] theorem State.setAlarms_ports (x : AlarmList) : (s.setAlarms x).ports = s.ports := rfl
@[simp] theorem State.setAlarms_locks (x : AlarmList) : (s.setAlarms x).locks = s.locks := rfl
@[simp] theorem State.setAlarms_subscriberCount (x : AlarmList) : (s.setAlarms x).subscriberCount = s.subscriberCount := rfl
@[simp] theorem State.setAlarms_composition (x : AlarmList) : (s.setAlarms x).composition = s.composition := rfl
@[simp] theorem State.setAlarms_slots (x : AlarmList) : (s.setAlarms x).slots = s.slots := rfl
@[simp] theorem State.setAlarms_sources (x : AlarmList) : (s.setAlarms x).sources = s.sources := rfl
@[simp] theorem State.setAlarms_matrix (x : AlarmList) : (s.setAlarms x).matrix = s.matrix := rfl
@[simp] theorem State.setAlarms_legs (x : AlarmList) : (s.setAlarms x).legs = s.legs := rfl
@[simp] theorem State.setAlarms_roots (x : AlarmList) : (s.setAlarms x).roots = s.roots := rfl
@[simp] theorem State.setAlarms_spaceLow (x : AlarmList) : (s.setAlarms x).spaceLow = s.spaceLow := rfl
@[simp] theorem State.setAlarms_clock (x : AlarmList) : (s.setAlarms x).clock = s.clock := rfl
@[simp] theorem State.setAlarms_power (x : AlarmList) : (s.setAlarms x).power = s.power := rfl
@[simp] theorem State.setAlarms_inReset (x : AlarmList) : (s.setAlarms x).inReset = s.inReset := rfl
@[simp] theorem State.setAlarms_startKind (x : AlarmList) : (s.setAlarms x).startKind = s.startKind := rfl
@[simp] theorem State.setAlarms_freeIndex (x : AlarmList) : (s.setAlarms x).freeIndex = s.freeIndex := rfl
@[simp] theorem State.setAlarms_pending (x : AlarmList) : (s.setAlarms x).pending = s.pending := rfl
@[simp] theorem State.port_setAlarms (x : AlarmList) (j : Port) : (s.setAlarms x).port j = s.port j := rfl
@[simp] theorem State.lock_setAlarms (x : AlarmList) (j : LockNo) : (s.setAlarms x).lock j = s.lock j := rfl
@[simp] theorem State.sub_setAlarms (x : AlarmList) (j : Drop) : (s.setAlarms x).sub j = s.sub j := rfl
@[simp] theorem State.unit_setAlarms (x : AlarmList) (j : UnitNo) : (s.setAlarms x).unit j = s.unit j := rfl
@[simp] theorem State.node_setAlarms (x : AlarmList) (j : NodeNo) : (s.setAlarms x).node j = s.node j := rfl
@[simp] theorem State.root_setAlarms (x : AlarmList) (j : Leg) : (s.setAlarms x).root j = s.root j := rfl
@[simp] theorem State.slot_setAlarms (x : AlarmList) (j : Slot) : (s.setAlarms x).slot j = s.slot j := rfl
@[simp] theorem State.source_setAlarms (x : AlarmList) (j : Source) : (s.setAlarms x).source j = s.source j := rfl
@[simp] theorem State.monitor_setAlarms (x : AlarmList) (j : Source) : (s.setAlarms x).monitor j = s.monitor j := rfl
@[simp] theorem State.leg_setAlarms (x : AlarmList) (j : Leg) : (s.setAlarms x).leg j = s.leg j := rfl
@[simp] theorem State.legSettings_setAlarms (x : AlarmList) (j : Leg) : (s.setAlarms x).legSettings j = s.legSettings j := rfl
@[simp] theorem State.run_setAlarms (x : AlarmList) (j : Leg) : (s.setAlarms x).run j = s.run j := rfl
@[simp] theorem State.now_setAlarms (x : AlarmList) : (s.setAlarms x).now = s.now := rfl

/-! ## State.setSpaceLow -/

@[simp] theorem State.setSpaceLow_spaceLow (x : Bool) : (s.setSpaceLow x).spaceLow = x := rfl
@[simp] theorem State.setSpaceLow_table (x : Bool) : (s.setSpaceLow x).table = s.table := rfl
@[simp] theorem State.setSpaceLow_crcs (x : Bool) : (s.setSpaceLow x).crcs = s.crcs := rfl
@[simp] theorem State.setSpaceLow_ports (x : Bool) : (s.setSpaceLow x).ports = s.ports := rfl
@[simp] theorem State.setSpaceLow_locks (x : Bool) : (s.setSpaceLow x).locks = s.locks := rfl
@[simp] theorem State.setSpaceLow_subscriberCount (x : Bool) : (s.setSpaceLow x).subscriberCount = s.subscriberCount := rfl
@[simp] theorem State.setSpaceLow_composition (x : Bool) : (s.setSpaceLow x).composition = s.composition := rfl
@[simp] theorem State.setSpaceLow_slots (x : Bool) : (s.setSpaceLow x).slots = s.slots := rfl
@[simp] theorem State.setSpaceLow_sources (x : Bool) : (s.setSpaceLow x).sources = s.sources := rfl
@[simp] theorem State.setSpaceLow_matrix (x : Bool) : (s.setSpaceLow x).matrix = s.matrix := rfl
@[simp] theorem State.setSpaceLow_legs (x : Bool) : (s.setSpaceLow x).legs = s.legs := rfl
@[simp] theorem State.setSpaceLow_roots (x : Bool) : (s.setSpaceLow x).roots = s.roots := rfl
@[simp] theorem State.setSpaceLow_alarms (x : Bool) : (s.setSpaceLow x).alarms = s.alarms := rfl
@[simp] theorem State.setSpaceLow_clock (x : Bool) : (s.setSpaceLow x).clock = s.clock := rfl
@[simp] theorem State.setSpaceLow_power (x : Bool) : (s.setSpaceLow x).power = s.power := rfl
@[simp] theorem State.setSpaceLow_inReset (x : Bool) : (s.setSpaceLow x).inReset = s.inReset := rfl
@[simp] theorem State.setSpaceLow_startKind (x : Bool) : (s.setSpaceLow x).startKind = s.startKind := rfl
@[simp] theorem State.setSpaceLow_freeIndex (x : Bool) : (s.setSpaceLow x).freeIndex = s.freeIndex := rfl
@[simp] theorem State.setSpaceLow_pending (x : Bool) : (s.setSpaceLow x).pending = s.pending := rfl
@[simp] theorem State.port_setSpaceLow (x : Bool) (j : Port) : (s.setSpaceLow x).port j = s.port j := rfl
@[simp] theorem State.lock_setSpaceLow (x : Bool) (j : LockNo) : (s.setSpaceLow x).lock j = s.lock j := rfl
@[simp] theorem State.sub_setSpaceLow (x : Bool) (j : Drop) : (s.setSpaceLow x).sub j = s.sub j := rfl
@[simp] theorem State.unit_setSpaceLow (x : Bool) (j : UnitNo) : (s.setSpaceLow x).unit j = s.unit j := rfl
@[simp] theorem State.node_setSpaceLow (x : Bool) (j : NodeNo) : (s.setSpaceLow x).node j = s.node j := rfl
@[simp] theorem State.root_setSpaceLow (x : Bool) (j : Leg) : (s.setSpaceLow x).root j = s.root j := rfl
@[simp] theorem State.slot_setSpaceLow (x : Bool) (j : Slot) : (s.setSpaceLow x).slot j = s.slot j := rfl
@[simp] theorem State.source_setSpaceLow (x : Bool) (j : Source) : (s.setSpaceLow x).source j = s.source j := rfl
@[simp] theorem State.monitor_setSpaceLow (x : Bool) (j : Source) : (s.setSpaceLow x).monitor j = s.monitor j := rfl
@[simp] theorem State.leg_setSpaceLow (x : Bool) (j : Leg) : (s.setSpaceLow x).leg j = s.leg j := rfl
@[simp] theorem State.legSettings_setSpaceLow (x : Bool) (j : Leg) : (s.setSpaceLow x).legSettings j = s.legSettings j := rfl
@[simp] theorem State.run_setSpaceLow (x : Bool) (j : Leg) : (s.setSpaceLow x).run j = s.run j := rfl
@[simp] theorem State.now_setSpaceLow (x : Bool) : (s.setSpaceLow x).now = s.now := rfl

/-! ## State.setClock -/

@[simp] theorem State.setClock_clock (x : Clock) : (s.setClock x).clock = x := rfl
@[simp] theorem State.setClock_table (x : Clock) : (s.setClock x).table = s.table := rfl
@[simp] theorem State.setClock_crcs (x : Clock) : (s.setClock x).crcs = s.crcs := rfl
@[simp] theorem State.setClock_ports (x : Clock) : (s.setClock x).ports = s.ports := rfl
@[simp] theorem State.setClock_locks (x : Clock) : (s.setClock x).locks = s.locks := rfl
@[simp] theorem State.setClock_subscriberCount (x : Clock) : (s.setClock x).subscriberCount = s.subscriberCount := rfl
@[simp] theorem State.setClock_composition (x : Clock) : (s.setClock x).composition = s.composition := rfl
@[simp] theorem State.setClock_slots (x : Clock) : (s.setClock x).slots = s.slots := rfl
@[simp] theorem State.setClock_sources (x : Clock) : (s.setClock x).sources = s.sources := rfl
@[simp] theorem State.setClock_matrix (x : Clock) : (s.setClock x).matrix = s.matrix := rfl
@[simp] theorem State.setClock_legs (x : Clock) : (s.setClock x).legs = s.legs := rfl
@[simp] theorem State.setClock_roots (x : Clock) : (s.setClock x).roots = s.roots := rfl
@[simp] theorem State.setClock_alarms (x : Clock) : (s.setClock x).alarms = s.alarms := rfl
@[simp] theorem State.setClock_spaceLow (x : Clock) : (s.setClock x).spaceLow = s.spaceLow := rfl
@[simp] theorem State.setClock_power (x : Clock) : (s.setClock x).power = s.power := rfl
@[simp] theorem State.setClock_inReset (x : Clock) : (s.setClock x).inReset = s.inReset := rfl
@[simp] theorem State.setClock_startKind (x : Clock) : (s.setClock x).startKind = s.startKind := rfl
@[simp] theorem State.setClock_freeIndex (x : Clock) : (s.setClock x).freeIndex = s.freeIndex := rfl
@[simp] theorem State.setClock_pending (x : Clock) : (s.setClock x).pending = s.pending := rfl
@[simp] theorem State.port_setClock (x : Clock) (j : Port) : (s.setClock x).port j = s.port j := rfl
@[simp] theorem State.lock_setClock (x : Clock) (j : LockNo) : (s.setClock x).lock j = s.lock j := rfl
@[simp] theorem State.sub_setClock (x : Clock) (j : Drop) : (s.setClock x).sub j = s.sub j := rfl
@[simp] theorem State.unit_setClock (x : Clock) (j : UnitNo) : (s.setClock x).unit j = s.unit j := rfl
@[simp] theorem State.node_setClock (x : Clock) (j : NodeNo) : (s.setClock x).node j = s.node j := rfl
@[simp] theorem State.root_setClock (x : Clock) (j : Leg) : (s.setClock x).root j = s.root j := rfl
@[simp] theorem State.slot_setClock (x : Clock) (j : Slot) : (s.setClock x).slot j = s.slot j := rfl
@[simp] theorem State.source_setClock (x : Clock) (j : Source) : (s.setClock x).source j = s.source j := rfl
@[simp] theorem State.monitor_setClock (x : Clock) (j : Source) : (s.setClock x).monitor j = s.monitor j := rfl
@[simp] theorem State.leg_setClock (x : Clock) (j : Leg) : (s.setClock x).leg j = s.leg j := rfl
@[simp] theorem State.legSettings_setClock (x : Clock) (j : Leg) : (s.setClock x).legSettings j = s.legSettings j := rfl
@[simp] theorem State.run_setClock (x : Clock) (j : Leg) : (s.setClock x).run j = s.run j := rfl

/-! ## State.setPower -/

@[simp] theorem State.setPower_power (x : Power) : (s.setPower x).power = x := rfl
@[simp] theorem State.setPower_table (x : Power) : (s.setPower x).table = s.table := rfl
@[simp] theorem State.setPower_crcs (x : Power) : (s.setPower x).crcs = s.crcs := rfl
@[simp] theorem State.setPower_ports (x : Power) : (s.setPower x).ports = s.ports := rfl
@[simp] theorem State.setPower_locks (x : Power) : (s.setPower x).locks = s.locks := rfl
@[simp] theorem State.setPower_subscriberCount (x : Power) : (s.setPower x).subscriberCount = s.subscriberCount := rfl
@[simp] theorem State.setPower_composition (x : Power) : (s.setPower x).composition = s.composition := rfl
@[simp] theorem State.setPower_slots (x : Power) : (s.setPower x).slots = s.slots := rfl
@[simp] theorem State.setPower_sources (x : Power) : (s.setPower x).sources = s.sources := rfl
@[simp] theorem State.setPower_matrix (x : Power) : (s.setPower x).matrix = s.matrix := rfl
@[simp] theorem State.setPower_legs (x : Power) : (s.setPower x).legs = s.legs := rfl
@[simp] theorem State.setPower_roots (x : Power) : (s.setPower x).roots = s.roots := rfl
@[simp] theorem State.setPower_alarms (x : Power) : (s.setPower x).alarms = s.alarms := rfl
@[simp] theorem State.setPower_spaceLow (x : Power) : (s.setPower x).spaceLow = s.spaceLow := rfl
@[simp] theorem State.setPower_clock (x : Power) : (s.setPower x).clock = s.clock := rfl
@[simp] theorem State.setPower_inReset (x : Power) : (s.setPower x).inReset = s.inReset := rfl
@[simp] theorem State.setPower_startKind (x : Power) : (s.setPower x).startKind = s.startKind := rfl
@[simp] theorem State.setPower_freeIndex (x : Power) : (s.setPower x).freeIndex = s.freeIndex := rfl
@[simp] theorem State.setPower_pending (x : Power) : (s.setPower x).pending = s.pending := rfl
@[simp] theorem State.port_setPower (x : Power) (j : Port) : (s.setPower x).port j = s.port j := rfl
@[simp] theorem State.lock_setPower (x : Power) (j : LockNo) : (s.setPower x).lock j = s.lock j := rfl
@[simp] theorem State.sub_setPower (x : Power) (j : Drop) : (s.setPower x).sub j = s.sub j := rfl
@[simp] theorem State.unit_setPower (x : Power) (j : UnitNo) : (s.setPower x).unit j = s.unit j := rfl
@[simp] theorem State.node_setPower (x : Power) (j : NodeNo) : (s.setPower x).node j = s.node j := rfl
@[simp] theorem State.root_setPower (x : Power) (j : Leg) : (s.setPower x).root j = s.root j := rfl
@[simp] theorem State.slot_setPower (x : Power) (j : Slot) : (s.setPower x).slot j = s.slot j := rfl
@[simp] theorem State.source_setPower (x : Power) (j : Source) : (s.setPower x).source j = s.source j := rfl
@[simp] theorem State.monitor_setPower (x : Power) (j : Source) : (s.setPower x).monitor j = s.monitor j := rfl
@[simp] theorem State.leg_setPower (x : Power) (j : Leg) : (s.setPower x).leg j = s.leg j := rfl
@[simp] theorem State.legSettings_setPower (x : Power) (j : Leg) : (s.setPower x).legSettings j = s.legSettings j := rfl
@[simp] theorem State.run_setPower (x : Power) (j : Leg) : (s.setPower x).run j = s.run j := rfl
@[simp] theorem State.now_setPower (x : Power) : (s.setPower x).now = s.now := rfl

/-! ## State.setCrcs -/

@[simp] theorem State.setCrcs_crcs (x : Vector (BitVec 16) 512) : (s.setCrcs x).crcs = x := rfl
@[simp] theorem State.setCrcs_table (x : Vector (BitVec 16) 512) : (s.setCrcs x).table = s.table := rfl
@[simp] theorem State.setCrcs_ports (x : Vector (BitVec 16) 512) : (s.setCrcs x).ports = s.ports := rfl
@[simp] theorem State.setCrcs_locks (x : Vector (BitVec 16) 512) : (s.setCrcs x).locks = s.locks := rfl
@[simp] theorem State.setCrcs_subscriberCount (x : Vector (BitVec 16) 512) : (s.setCrcs x).subscriberCount = s.subscriberCount := rfl
@[simp] theorem State.setCrcs_composition (x : Vector (BitVec 16) 512) : (s.setCrcs x).composition = s.composition := rfl
@[simp] theorem State.setCrcs_slots (x : Vector (BitVec 16) 512) : (s.setCrcs x).slots = s.slots := rfl
@[simp] theorem State.setCrcs_sources (x : Vector (BitVec 16) 512) : (s.setCrcs x).sources = s.sources := rfl
@[simp] theorem State.setCrcs_matrix (x : Vector (BitVec 16) 512) : (s.setCrcs x).matrix = s.matrix := rfl
@[simp] theorem State.setCrcs_legs (x : Vector (BitVec 16) 512) : (s.setCrcs x).legs = s.legs := rfl
@[simp] theorem State.setCrcs_roots (x : Vector (BitVec 16) 512) : (s.setCrcs x).roots = s.roots := rfl
@[simp] theorem State.setCrcs_alarms (x : Vector (BitVec 16) 512) : (s.setCrcs x).alarms = s.alarms := rfl
@[simp] theorem State.setCrcs_spaceLow (x : Vector (BitVec 16) 512) : (s.setCrcs x).spaceLow = s.spaceLow := rfl
@[simp] theorem State.setCrcs_clock (x : Vector (BitVec 16) 512) : (s.setCrcs x).clock = s.clock := rfl
@[simp] theorem State.setCrcs_power (x : Vector (BitVec 16) 512) : (s.setCrcs x).power = s.power := rfl
@[simp] theorem State.setCrcs_inReset (x : Vector (BitVec 16) 512) : (s.setCrcs x).inReset = s.inReset := rfl
@[simp] theorem State.setCrcs_startKind (x : Vector (BitVec 16) 512) : (s.setCrcs x).startKind = s.startKind := rfl
@[simp] theorem State.setCrcs_freeIndex (x : Vector (BitVec 16) 512) : (s.setCrcs x).freeIndex = s.freeIndex := rfl
@[simp] theorem State.setCrcs_pending (x : Vector (BitVec 16) 512) : (s.setCrcs x).pending = s.pending := rfl
@[simp] theorem State.port_setCrcs (x : Vector (BitVec 16) 512) (j : Port) : (s.setCrcs x).port j = s.port j := rfl
@[simp] theorem State.lock_setCrcs (x : Vector (BitVec 16) 512) (j : LockNo) : (s.setCrcs x).lock j = s.lock j := rfl
@[simp] theorem State.sub_setCrcs (x : Vector (BitVec 16) 512) (j : Drop) : (s.setCrcs x).sub j = s.sub j := rfl
@[simp] theorem State.unit_setCrcs (x : Vector (BitVec 16) 512) (j : UnitNo) : (s.setCrcs x).unit j = s.unit j := rfl
@[simp] theorem State.node_setCrcs (x : Vector (BitVec 16) 512) (j : NodeNo) : (s.setCrcs x).node j = s.node j := rfl
@[simp] theorem State.root_setCrcs (x : Vector (BitVec 16) 512) (j : Leg) : (s.setCrcs x).root j = s.root j := rfl
@[simp] theorem State.slot_setCrcs (x : Vector (BitVec 16) 512) (j : Slot) : (s.setCrcs x).slot j = s.slot j := rfl
@[simp] theorem State.source_setCrcs (x : Vector (BitVec 16) 512) (j : Source) : (s.setCrcs x).source j = s.source j := rfl
@[simp] theorem State.monitor_setCrcs (x : Vector (BitVec 16) 512) (j : Source) : (s.setCrcs x).monitor j = s.monitor j := rfl
@[simp] theorem State.leg_setCrcs (x : Vector (BitVec 16) 512) (j : Leg) : (s.setCrcs x).leg j = s.leg j := rfl
@[simp] theorem State.legSettings_setCrcs (x : Vector (BitVec 16) 512) (j : Leg) : (s.setCrcs x).legSettings j = s.legSettings j := rfl
@[simp] theorem State.run_setCrcs (x : Vector (BitVec 16) 512) (j : Leg) : (s.setCrcs x).run j = s.run j := rfl
@[simp] theorem State.now_setCrcs (x : Vector (BitVec 16) 512) : (s.setCrcs x).now = s.now := rfl

end Sys2Proof.Machine
end

