-- ==== Sys2Proof/Laws/Arbiter.lean ====
section
/-!
SUPPORT. What the leg arbiter can do (R81): it leaves alone all but its leg, and no candidate waits beside a free
line of its leg after it.
-/

namespace Sys2Proof.Machine

/-- The candidate of a leg depends on its queues, its direct slot and the units. -/
theorem State.candidate_congr {s t : State} {l : Leg} (hg : t.leg l = s.leg l)
    (hu : t.table.units = s.table.units) : t.candidate l = s.candidate l := by
  simp only [State.candidate, hg, State.isDead, State.unit, hu]
  rfl

/-- The arbiter changes nothing, or has begun a transaction on its leg and changed that leg alone. -/
theorem State.arbitrate_cases (s : State) (l : Leg) :
    s.arbitrate l = s ∨
      ∃ (g : LegState) (tx : Transaction), g.tx = some tx ∧ s.arbitrate l = s.setLeg l g := by
  unfold State.arbitrate
  split
  · split
    · exact .inr ⟨_, _, rfl, rfl⟩
    · exact .inr ⟨_, _, rfl, rfl⟩
    · exact .inr ⟨_, _, rfl, rfl⟩
    · exact .inl rfl
  · exact .inl rfl

/-- The arbiter leaves the run states, the units, power and reset alone. -/
theorem State.arbitrate_rest (s : State) (l : Leg) :
    (s.arbitrate l).table = s.table ∧ (s.arbitrate l).power = s.power ∧
      (s.arbitrate l).inReset = s.inReset := by
  obtain h | ⟨g, tx, _, h⟩ := s.arbitrate_cases l <;> simp [h]

/-- The arbiter leaves every other leg alone. -/
theorem State.arbitrate_leg_ne (s : State) {l k : Leg} (h : k ≠ l) :
    (s.arbitrate l).leg k = s.leg k := by
  obtain e | ⟨g, tx, _, e⟩ := s.arbitrate_cases l <;> simp [e, h]

/-- After the arbiter of a leg no candidate of that leg waits beside a free line. -/
theorem State.arbitrate_settles (s : State) (l : Leg) (hr : s.run l = .running) (hp : s.power = .normal)
    (ht : ((s.arbitrate l).leg l).tx = none) : (s.arbitrate l).candidate l = none := by
  obtain e | ⟨g, tx, hg, e⟩ := s.arbitrate_cases l
  · rw [e] at ht ⊢
    unfold State.arbitrate at e
    rw [if_pos ⟨hr, ht, hp⟩] at e
    split at e
    · have := congrArg (fun t => (State.leg t l).tx) e
      simp [State.beginPoll, ht] at this
    · have := congrArg (fun t => (State.leg t l).tx) e
      simp [State.beginDirect, ht] at this
    · have := congrArg (fun t => (State.leg t l).tx) e
      simp [State.beginOrder, ht] at this
    · assumption
  · rw [e] at ht
    simp [hg] at ht

/-- The arbiter of one leg brings `ArbiterSound` where every other leg has it already. -/
theorem State.arbitrate_sound (s : State) (l : Leg)
    (h : s.inReset = false → s.power = .normal →
      ∀ k : Leg, k ≠ l → s.run k = .running → (s.leg k).tx = none → s.candidate k = none) :
    ArbiterSound (s.arbitrate l) := by
  obtain ⟨htab, hp, hi⟩ := s.arbitrate_rest l
  intro ir np k hr ht
  have run : s.run k = .running := by simpa [State.run, htab] using hr
  by_cases hk : k = l
  · subst hk
    exact s.arbitrate_settles k run (hp ▸ np) ht
  · have hl := s.arbitrate_leg_ne hk
    rw [State.candidate_congr hl (by rw [htab])]
    exact h (hi ▸ ir) (hp ▸ np) k hk run (hl ▸ ht)

end Sys2Proof.Machine
end

