-- ==== Sys2Proof/Laws/Calm.lean ====
section
/-!
SUPPORT. The operations of the blocks are calm: they leave the ports (but for attention flags), the locks,
the clock, power, reset and the waiting commands alone. One lemma for each operation.
-/

namespace Sys2Proof.Machine

/-! ## The relation -/

theorem Calm.refl (s : State) : Calm s s :=
  ⟨fun _ => rfl, rfl, rfl, rfl, rfl, rfl, rfl, rfl, rfl, rfl, rfl⟩

theorem Calm.trans {s t u : State} (h : Calm s t) (k : Calm t u) : Calm s u where
  ports p := by rw [← k.ports p, ← h.ports p]
  locks := k.locks.trans h.locks
  clock := k.clock.trans h.clock
  lastKnown := k.lastKnown.trans h.lastKnown
  record := k.record.trans h.record
  crcs := k.crcs.trans h.crcs
  power := k.power.trans h.power
  inReset := k.inReset.trans h.inReset
  startKind := k.startKind.trans h.startKind
  freeIndex := k.freeIndex.trans h.freeIndex
  pending := k.pending.trans h.pending

/-- A change that touches none of the fields of `Calm` is calm. -/
theorem Calm.of_eq {s t : State} (hp : t.ports = s.ports) (hl : t.locks = s.locks)
    (hc : t.clock = s.clock) (hk : t.table.lastKnown = s.table.lastKnown)
    (hr : t.table.record = s.table.record) (hs : t.crcs = s.crcs)
    (hpw : t.power = s.power) (hi : t.inReset = s.inReset) (hst : t.startKind = s.startKind)
    (hf : t.freeIndex = s.freeIndex) (hq : t.pending = s.pending) : Calm s t :=
  ⟨fun p => by simp [State.port, hp], hl, hc, hk, hr, hs, hpw, hi, hst, hf, hq⟩

theorem Calm.now {s t : State} (h : Calm s t) : t.now = s.now := by simp [State.now, h.clock]

theorem Calm.lock {s t : State} (h : Calm s t) (n : LockNo) : t.lock n = s.lock n := by
  simp [State.lock, h.locks]

theorem Calm.phase {s t : State} (h : Calm s t) (p : Port) : (t.port p).phase = (s.port p).phase := by
  rw [← h.ports p]

theorem Calm.attached {s t : State} (h : Calm s t) (p : Port) : t.attached p = s.attached p := by
  simp [State.attached, PortState.attached, h.phase p]

/-- Repeating a calm operation is calm. -/
theorem Calm.forEach {α : Type} {f : State → α → State} (h : ∀ s a, Calm s (f s a)) (items : List α)
    (s : State) : Calm s (forEach items f s) := by
  induction items generalizing s with
  | nil => exact .refl s
  | cons a rest ih => exact (h s a).trans (ih (f s a))

/-- Either branch calm, both calm. -/
theorem Calm.ite {s t u : State} {c : Prop} [Decidable c] (ht : Calm s t) (hu : Calm s u) :
    Calm s (if c then t else u) := by
  split <;> assumption

/-! ## Record updates -/

theorem calm_setSub (s : State) (d : Drop) (x : Subscriber) : Calm s (s.setSub d x) :=
  .of_eq rfl rfl rfl rfl rfl rfl rfl rfl rfl rfl rfl
theorem calm_setUnit (s : State) (u : UnitNo) (x : UnitEntry) : Calm s (s.setUnit u x) :=
  .of_eq rfl rfl rfl rfl rfl rfl rfl rfl rfl rfl rfl
theorem calm_setNode (s : State) (n : NodeNo) (x : NodeEntry) : Calm s (s.setNode n x) :=
  .of_eq rfl rfl rfl rfl rfl rfl rfl rfl rfl rfl rfl
theorem calm_setRoot (s : State) (l : Leg) (x : Tally) : Calm s (s.setRoot l x) :=
  .of_eq rfl rfl rfl rfl rfl rfl rfl rfl rfl rfl rfl
theorem calm_setSlot (s : State) (i : Slot) (x : SlotRuntime) : Calm s (s.setSlot i x) :=
  .of_eq rfl rfl rfl rfl rfl rfl rfl rfl rfl rfl rfl
theorem calm_setSource (s : State) (k : Source) (x : SourceRuntime) : Calm s (s.setSource k x) :=
  .of_eq rfl rfl rfl rfl rfl rfl rfl rfl rfl rfl rfl
theorem calm_setMonitor (s : State) (k : Source) (x : SourceSettings) : Calm s (s.setMonitor k x) :=
  .of_eq rfl rfl rfl rfl rfl rfl rfl rfl rfl rfl rfl
theorem calm_setLeg (s : State) (l : Leg) (x : LegState) : Calm s (s.setLeg l x) :=
  .of_eq rfl rfl rfl rfl rfl rfl rfl rfl rfl rfl rfl
theorem calm_setLegSettings (s : State) (l : Leg) (x : LegSettings) : Calm s (s.setLegSettings l x) :=
  .of_eq rfl rfl rfl rfl rfl rfl rfl rfl rfl rfl rfl
theorem calm_setRun (s : State) (l : Leg) (x : RunState) : Calm s (s.setRun l x) :=
  .of_eq rfl rfl rfl rfl rfl rfl rfl rfl rfl rfl rfl
theorem calm_setTx (s : State) (l : Leg) (x : Transaction) : Calm s (s.setTx l x) := calm_setLeg ..

theorem calm_setActivation (s : State) (x : Activation) : Calm s (s.setActivation x) :=
  .of_eq rfl rfl rfl rfl rfl rfl rfl rfl rfl rfl rfl
theorem calm_setClose (s : State) (x : CloseContext) : Calm s (s.setClose x) :=
  .of_eq rfl rfl rfl rfl rfl rfl rfl rfl rfl rfl rfl
theorem calm_setJournal (s : State) (x : Journal) : Calm s (s.setJournal x) :=
  .of_eq rfl rfl rfl rfl rfl rfl rfl rfl rfl rfl rfl
theorem calm_setCount (s : State) (n : Nat) : Calm s (s.setCount n) :=
  .of_eq rfl rfl rfl rfl rfl rfl rfl rfl rfl rfl rfl
theorem calm_setComposition (s : State) (x : Composition) : Calm s (s.setComposition x) :=
  .of_eq rfl rfl rfl rfl rfl rfl rfl rfl rfl rfl rfl
theorem calm_setMatrix (s : State) (x : Matrix) : Calm s (s.setMatrix x) :=
  .of_eq rfl rfl rfl rfl rfl rfl rfl rfl rfl rfl rfl
theorem calm_setAlarms (s : State) (x : AlarmList) : Calm s (s.setAlarms x) :=
  .of_eq rfl rfl rfl rfl rfl rfl rfl rfl rfl rfl rfl
theorem calm_setSpaceLow (s : State) (x : Bool) : Calm s (s.setSpaceLow x) :=
  .of_eq rfl rfl rfl rfl rfl rfl rfl rfl rfl rfl rfl
/-- A new table memory with the same last-known minute, shutdown record. -/
theorem calm_setTable (s : State) (x : TableMemory) (hk : x.lastKnown = s.table.lastKnown)
    (hr : x.record = s.table.record) : Calm s (s.setTable x) :=
  .of_eq rfl rfl rfl hk hr rfl rfl rfl rfl rfl rfl

/-! ## Flags and alarms -/

theorem raise_sameButFlags (f : Flag) (x : PortState) : { x with flags := (x.raise f).flags } = x.raise f := by
  unfold PortState.raise
  split <;> rfl

theorem calm_flag (s : State) (f : Flag) (q : Port) : Calm s (s.flag f q) where
  ports p := by
    unfold State.flag
    rw [State.port_setPort]
    split
    · next h => rw [← h]; exact raise_sameButFlags f _
    · rfl
  locks := rfl
  clock := rfl
  lastKnown := rfl
  record := rfl
  crcs := rfl
  power := rfl
  inReset := rfl
  startKind := rfl
  freeIndex := rfl
  pending := rfl

theorem port_flagAll (s : State) (f : Flag) (who : PortState → Bool) (p : Port) :
    (s.flagAll f who).port p = if who (s.port p) then (s.port p).raise f else s.port p := by
  simp [State.flagAll, State.port]

theorem calm_flagAll (s : State) (f : Flag) (who : PortState → Bool) : Calm s (s.flagAll f who) where
  ports p := by
    rw [port_flagAll]
    split
    · exact raise_sameButFlags f _
    · rfl
  locks := rfl
  clock := rfl
  lastKnown := rfl
  record := rfl
  crcs := rfl
  power := rfl
  inReset := rfl
  startKind := rfl
  freeIndex := rfl
  pending := rfl

theorem calm_flagRole (s : State) (f : Flag) (r : Role) : Calm s (s.flagRole f r) := calm_flagAll ..

theorem calm_withAlarms (s : State) (a : AlarmList) : Calm s (s.withAlarms a) := by
  unfold State.withAlarms
  split
  · exact (calm_setAlarms ..).trans (calm_flagAll ..)
  · exact calm_setAlarms ..

theorem calm_raise (s : State) (k : AlarmKind) (o : Nat) (i : BitVec 16) : Calm s (s.raise k o i) :=
  calm_withAlarms ..
theorem calm_clear (s : State) (k : AlarmKind) (o : Nat) : Calm s (s.clear k o) := calm_withAlarms ..
theorem calm_ackAlarm (s : State) (k : AlarmKind) (o : Nat) : Calm s (s.ackAlarm k o) :=
  .ite (calm_withAlarms ..) (calm_setAlarms ..)
theorem calm_alarmWhile (s : State) (b : Bool) (k : AlarmKind) (o : Nat) (i : BitVec 16) :
    Calm s (s.alarmWhile b k o i) := .ite (calm_raise ..) (calm_clear ..)
theorem calm_clearKind (s : State) (k : AlarmKind) : Calm s (s.clearKind k) :=
  .forEach (fun s o => calm_clear s k o) ..

/-! ## Order queue -/

theorem calm_evaluateOrder (s : State) (u : UnitNo) : Calm s (s.evaluateOrder u) :=
  .ite (calm_setLeg ..) (.refl _)
theorem calm_dropHold (s : State) (u : UnitNo) : Calm s (s.dropHold u) :=
  (calm_setUnit ..).trans (calm_clear ..)
theorem calm_clearHeld (s : State) (u : UnitNo) : Calm s (s.clearHeld u) :=
  (calm_dropHold ..).trans (calm_evaluateOrder ..)

/-! ## Matrix -/

theorem calm_joinMatrix (s : State) (i : Slot) : Calm s (s.joinMatrix i) := .ite (.refl _) (calm_setMatrix ..)
theorem calm_startMatrix (s : State) : Calm s s.startMatrix := by
  unfold State.startMatrix
  split
  · exact calm_setMatrix ..
  · exact .refl _
theorem calm_matrixMatched (s : State) (i : Slot) : Calm s (s.matrixMatched i) :=
  (calm_setSlot ..).trans (calm_clear ..)
theorem calm_matrixFailed (s : State) (i : Slot) (x : Option Source) : Calm s (s.matrixFailed i x) :=
  .ite ((calm_setSlot ..).trans (calm_joinMatrix ..))
    (((calm_setSlot ..).trans (calm_setMatrix ..)).trans (calm_raise ..))
theorem calm_endMatrix (s : State) (a : Option (Nat × Nat)) : Calm s (s.endMatrix a) := by
  unfold State.endMatrix
  split
  · exact .refl _
  · exact ((calm_setMatrix ..).trans (.ite (calm_matrixMatched ..) (calm_matrixFailed ..))).trans
      (calm_startMatrix _)
theorem calm_matrixSelectSent (s : State) : Calm s (matrixSelectSent s) := by
  unfold matrixSelectSent
  split
  · exact calm_setMatrix ..
  · exact calm_startMatrix _
theorem calm_matrixFrameReceived (c : List (List Level)) (s : State) : Calm s (matrixFrameReceived c s) := by
  unfold matrixFrameReceived
  split
  · exact calm_endMatrix ..
  · exact .refl _
theorem calm_matrixAckTimeout (s : State) : Calm s (matrixAckTimeout s) := by
  unfold matrixAckTimeout
  split
  · exact .ite (calm_endMatrix ..) (.refl _)
  · exact .refl _

/-! ## Slots and sources -/

theorem calm_slotAlarms (s : State) (i : Slot) (a b : SlotState) : Calm s (s.slotAlarms i a b) := by
  unfold State.slotAlarms
  exact ((Calm.ite (calm_clear ..) (.refl _)).trans (.ite (calm_clear ..) (.refl _))).trans
    (.ite (calm_raise ..) (.ite (calm_raise ..) (.refl _)))
theorem calm_enterSlot (s : State) (i : Slot) (x : SlotState) : Calm s (s.enterSlot i x) := by
  unfold State.enterSlot
  exact ((calm_setSlot ..).trans (.ite (calm_joinMatrix ..) (.refl _))).trans
    (.ite (calm_slotAlarms ..) (.refl _))
theorem calm_recomputeSlot (s : State) (i : Slot) : Calm s (s.recomputeSlot i) := calm_enterSlot ..
theorem calm_sourceChanged (s : State) (k : Source) (b : SourceState) : Calm s (s.sourceChanged k b) := by
  unfold State.sourceChanged
  exact .ite (.refl _) ((Calm.forEach calm_recomputeSlot ..).trans
    (.ite (.ite (calm_raise ..) (.refl _)) (.ite (calm_clear ..) (.refl _))))
theorem calm_updateSource (s : State) (k : Source) (x : SourceRuntime) : Calm s (s.updateSource k x) :=
  (calm_setSource ..).trans (calm_sourceChanged ..)
theorem calm_detectorReading (k : Source) (v : Option Byte) (s : State) : Calm s (detectorReading k v s) := by
  unfold detectorReading
  refine .ite (.refl _) ?_
  dsimp only
  split
  · exact calm_setSource ..
  · exact .ite ((calm_updateSource ..).trans (calm_startMatrix _)) (calm_setSource ..)
theorem calm_holdOffExpiry (k : Source) (s : State) : Calm s (holdOffExpiry k s) :=
  .ite ((calm_updateSource ..).trans (calm_startMatrix _)) (.refl _)

/-! ## Journal and accounts -/

theorem calm_evaluateSpace (s : State) : Calm s s.evaluateSpace :=
  .ite (.refl _) ((calm_setSpaceLow ..).trans (calm_alarmWhile ..))
theorem calm_journalWrite (s : State) (r : BillRecord) : Calm s (s.journalWrite r) :=
  (((calm_setJournal ..).trans (calm_setClose ..)).trans (calm_evaluateSpace _)).trans
    (calm_flagRole ..)
theorem calm_judge (s : State) (d : Drop) (m : Nat) : Calm s (s.judge d m) := calm_setSub ..
theorem calm_settleAtStamp (s : State) (d : Drop) : Calm s (s.settleAtStamp d) := by
  unfold State.settleAtStamp
  split
  · exact .refl _
  · exact (calm_setSub ..).trans (.ite (calm_judge ..) (.refl _))
theorem calm_catchUp (s : State) (d : Drop) (e : Bool) : Calm s (s.catchUp d e) := by
  unfold State.catchUp
  exact .ite (.refl _) (.ite (calm_setSub ..)
    (((calm_settleAtStamp ..).trans (calm_journalWrite ..)).trans (calm_setSub ..)))
theorem calm_fold (s : State) (d : Drop) (t : Nat) : Calm s (s.fold d t) :=
  (calm_catchUp ..).trans (calm_setSub ..)
theorem calm_replaceSegment (s : State) (d : Drop) : Calm s (s.replaceSegment d) := calm_setSub ..
theorem calm_recompute (s : State) (d : Drop) : Calm s (s.recompute d) := by
  unfold State.recompute
  refine .ite (.refl _) ?_
  split
  · exact calm_fold ..
  · exact calm_replaceSegment ..
theorem calm_dropEntersDead (b : Option Nat) (s : State) (d : Drop) : Calm s (s.dropEntersDead b d) := by
  unfold State.dropEntersDead
  split
  · exact calm_replaceSegment ..
  · exact .ite ((calm_catchUp ..).trans (calm_setSub ..)) (calm_recompute ..)
theorem calm_dropLeavesDead (s : State) (d : Drop) : Calm s (s.dropLeavesDead d) := by
  unfold State.dropLeavesDead
  split
  · exact calm_replaceSegment ..
  · exact (calm_fold ..).trans (calm_judge ..)
theorem calm_shutdownDrop (t : Nat) (s : State) (d : Drop) : Calm s (s.shutdownDrop t d) := by
  unfold State.shutdownDrop
  exact ((calm_fold ..).trans (.ite (calm_judge ..) (.refl _))).trans (calm_setSub ..)
theorem calm_endWalk (s : State) : Calm s s.endWalk := by
  unfold State.endWalk
  refine Calm.trans ?_ (calm_flagRole ..)
  have h : Calm s (s.setTable s.table.walkEnded) := calm_setTable _ _ rfl rfl
  split
  · exact h.trans (calm_flag ..)
  · exact h
theorem calm_walkVisit (s : State) : Calm s (walkVisit s) := by
  unfold walkVisit
  split
  · dsimp only
    split
    · exact (calm_catchUp ..).trans (calm_setClose ..)
    · exact (calm_catchUp ..).trans (calm_endWalk _)
  · exact .refl _
theorem calm_beginClose (s : State) (p : Port) (m : Nat) : Calm s (s.beginClose p m) := by
  unfold State.beginClose
  refine Calm.trans (Calm.trans ?_ (calm_evaluateSpace _)) (calm_clear ..)
  exact calm_setTable _ _ rfl rfl

/-! ## Plant map -/

theorem calm_modNode (s : State) (n : NodeNo) (f : Tally → Tally) : Calm s (s.modNode n f) := calm_setNode ..
theorem calm_alongPath (s : State) (ns : List NodeNo) (l : Leg) (f : Tally → Tally) :
    Calm s (s.alongPath ns l f) :=
  (Calm.forEach (fun s n => calm_modNode s n f) ..).trans (calm_setRoot ..)
theorem calm_alongUnit (s : State) (u : UnitNo) (f : Tally → Tally) : Calm s (s.alongUnit u f) := by
  unfold State.alongUnit
  split
  · exact calm_alongPath ..
  · exact .refl _
theorem calm_clearOutages (b s : State) : Calm s (State.clearOutages b s) := by
  unfold State.clearOutages
  exact ((Calm.forEach (fun _ _ => .ite (calm_clear ..) (.refl _)) ..).trans
    (Calm.forEach (fun _ _ => .ite (calm_clear ..) (.refl _)) ..)).trans
    (Calm.forEach (fun _ _ => .ite (calm_clear ..) (.refl _)) ..)
theorem calm_raiseOutages (b s : State) : Calm s (State.raiseOutages b s) := by
  unfold State.raiseOutages
  exact ((Calm.forEach (fun _ _ => .ite (calm_raise ..) (.refl _)) ..).trans
    (Calm.forEach (fun _ _ => .ite (calm_raise ..) (.refl _)) ..)).trans
    (Calm.forEach (fun _ _ => .ite (calm_raise ..) (.refl _)) ..)
theorem calm_rederive (b s : State) : Calm s (State.rederive b s) :=
  (calm_clearOutages ..).trans (calm_raiseOutages ..)
theorem calm_setOnPowerAlarm (s : State) (l : Leg) (f : Feed) (b : Bool) :
    Calm s (s.setOnPowerAlarm l f b) := by
  cases f with
  | node n => exact calm_modNode s n fun t => { t with onPowerAlarm := b }
  | root => exact calm_setRoot ..
theorem calm_refreshPower (s : State) (l : Leg) (f : Feed) : Calm s (s.refreshPower l f) := by
  unfold State.refreshPower
  exact .ite (.refl _) ((calm_setOnPowerAlarm ..).trans (calm_alarmWhile ..))
theorem calm_refreshFeedPower (s : State) (u : UnitNo) : Calm s (s.refreshFeedPower u) := by
  unfold State.refreshFeedPower
  split
  · exact calm_refreshPower ..
  · exact .refl _
theorem calm_applyFlags (s : State) (u : UnitNo) (f : Byte) (v : Nat) : Calm s (s.applyFlags u f v) := by
  unfold State.applyFlags
  extract_lets x s1 th al src s2
  have h1 : Calm s s1 := .ite (calm_raise ..) (.ite (calm_clear ..) (.refl _))
  have h2 : Calm s1 s2 := calm_setUnit ..
  exact (h1.trans h2).trans (.ite (.refl _) (calm_refreshFeedPower ..))
theorem calm_enterDead (s : State) (u : UnitNo) : Calm s (s.enterDead u) :=
  (((calm_setUnit ..).trans (Calm.forEach (calm_dropEntersDead _) ..)).trans (calm_alongUnit ..)).trans
    (calm_rederive ..)
theorem calm_miss (s : State) (u : UnitNo) : Calm s (s.miss u) := by
  unfold State.miss
  extract_lets x n first s1
  have h1 : Calm s s1 := calm_setUnit ..
  exact h1.trans (.ite (.ite (.refl _) (calm_enterDead ..)) (.ite (calm_setUnit ..) (.refl _)))
theorem calm_leaveDead (b s : State) (u : UnitNo) : Calm s (State.leaveDead b s u) :=
  ((((Calm.forEach calm_dropLeavesDead ..).trans (calm_setUnit ..)).trans (calm_alongUnit ..)).trans
    (calm_rederive ..)).trans (calm_dropHold ..)
theorem calm_revive (s : State) (u : UnitNo) : Calm s (s.revive u) :=
  (calm_setUnit ..).trans (.ite (calm_leaveDead ..) (.refl _))

/-! ## Legs -/

theorem calm_arbitrate (s : State) (l : Leg) : Calm s (s.arbitrate l) := by
  unfold State.arbitrate
  refine .ite ?_ (.refl _)
  split
  · exact calm_setLeg ..
  · exact calm_setLeg ..
  · exact calm_setLeg ..
  · exact .refl _
theorem calm_noise (s : State) (l : Leg) (o : LegOutcome) : Calm s (s.noise l o) := by
  unfold State.noise
  split
  · exact (calm_setLeg ..).trans (calm_clear ..)
  · exact .refl _
  · exact .ite ((calm_setLeg ..).trans (calm_raise ..)) (calm_setLeg ..)
theorem calm_countOutcome (s : State) (l : Leg) (o : LegOutcome) : Calm s (s.countOutcome l o) :=
  (calm_setLeg ..).trans (calm_noise ..)
theorem calm_directDone (s : State) (l : Leg) (r : DirectResult) : Calm s (s.directDone l r) := by
  unfold State.directDone
  split
  · exact (calm_setLeg ..).trans (calm_flag ..)
  · exact .refl _
theorem calm_storeImages (s : State) (u : UnitNo) (im : Images) : Calm s (s.storeImages u im) :=
  (calm_setUnit ..).trans (Calm.forEach (fun _ _ => calm_recompute ..) ..)
theorem calm_compareOrder (s : State) (u : UnitNo) (x y : Images) : Calm s (s.compareOrder u x y) := by
  unfold State.compareOrder
  exact .ite ((calm_setUnit ..).trans (calm_setLeg ..)) (.ite (calm_setLeg ..)
    (.ite ((calm_setUnit ..).trans (calm_setLeg ..))
      (((calm_setUnit ..).trans (calm_setLeg ..)).trans (calm_raise ..))))
theorem calm_applyStatus (s : State) (u : UnitNo) (x : Option Images) (b : List Byte) :
    Calm s (s.applyStatus u x b) := by
  unfold State.applyStatus
  extract_lets flags reply s1 s2 s3 s4
  have h1 : Calm s s1 := calm_revive ..
  have h2 : Calm s1 s2 := calm_applyFlags ..
  have h3 : Calm s2 s3 := calm_storeImages ..
  have h4 : Calm s3 s4 := .ite (calm_dropHold ..) (.refl _)
  refine (((h1.trans h2).trans h3).trans h4).trans ?_
  split
  · exact calm_evaluateOrder ..
  · exact calm_compareOrder ..
theorem calm_handOn (s : State) (l : Leg) (tx : Transaction) (o : LegOutcome) (b : List Byte) :
    Calm s (s.handOn l tx o b) := by
  unfold State.handOn
  have h : Calm s (if tx.purpose = .direct then
      s.directDone l { outcome := o, block := b, latency := tx.latency } else s) :=
    .ite (calm_directDone ..) (.refl _)
  exact h.trans (.ite (.refl _) (.ite (calm_applyStatus ..) (calm_miss ..)))
theorem calm_endTransaction (s : State) (l : Leg) (o : LegOutcome) (b : List Byte) :
    Calm s (s.endTransaction l o b) := by
  unfold State.endTransaction
  split
  · exact .refl _
  · exact ((((calm_countOutcome ..).trans (calm_handOn ..)).trans (calm_setLeg ..)).trans
      (.ite (calm_setRun ..) (.refl _))).trans (calm_arbitrate ..)
theorem calm_pollTick (l : Leg) (s : State) : Calm s (pollTick l s) := by
  unfold pollTick
  refine .ite ?_ (.refl _)
  dsimp only
  split
  · exact calm_setLeg ..
  · exact .ite (calm_setLeg ..) ((calm_setLeg ..).trans (calm_arbitrate ..))
theorem calm_sendingEnd (l : Leg) (s : State) : Calm s (sendingEnd l s) := by
  unfold sendingEnd
  split
  · exact calm_setTx ..
  · exact .refl _
theorem calm_blankingExpiry (l : Leg) (s : State) : Calm s (blankingExpiry l s) := by
  unfold blankingExpiry
  split
  · exact calm_setTx ..
  · exact .refl _
theorem calm_startBitConfirmed (l : Leg) (m : Nat) (x : List Level) (s : State) :
    Calm s (startBitConfirmed l m x s) := by
  unfold startBitConfirmed
  split
  · exact .ite (calm_setLeg ..) (.refl _)
  · split
    · exact calm_setTx ..
    · exact .refl _
theorem calm_replyWindowExpiry (l : Leg) (s : State) : Calm s (replyWindowExpiry l s) := by
  unfold replyWindowExpiry
  split
  · exact calm_endTransaction ..
  · exact .refl _
theorem calm_endReply (s : State) (l : Leg) (tx : Transaction) : Calm s (s.endReply l tx) :=
  calm_endTransaction ..
theorem calm_replyCharacterReceived (l : Leg) (x : List Level) (s : State) :
    Calm s (replyCharacterReceived l x s) := by
  unfold replyCharacterReceived
  split
  · split
    · exact (calm_setTx ..).trans (.ite (calm_endReply ..) (.refl _))
    · exact calm_setTx ..
  · exact .refl _
theorem calm_replyQuietEnd (l : Leg) (s : State) : Calm s (replyQuietEnd l s) := by
  unfold replyQuietEnd
  split
  · exact .ite (.refl _) (calm_endReply ..)
  · exact .refl _

/-! ## Line-up and sweep -/

theorem calm_swapSlot (old : LineUp) (s : State) (i : Slot) : Calm s (s.swapSlot old i) := calm_enterSlot ..
theorem calm_swapTables (s : State) : Calm s s.swapTables := by
  unfold State.swapTables
  extract_lets src t
  have h : Calm s t := calm_setTable _ _ rfl rfl
  exact h.trans (Calm.forEach (calm_swapSlot _) ..)
theorem calm_raiseNamedLosses (s : State) : Calm s s.raiseNamedLosses :=
  Calm.forEach (fun _ _ => calm_raise ..) ..
theorem calm_mixedAlarms (s : State) : Calm s s.mixedAlarms := Calm.forEach (fun _ _ => calm_alarmWhile ..) ..
theorem calm_swap (s : State) : Calm s s.swap :=
  (((((calm_swapTables s).trans (calm_raiseNamedLosses _)).trans (calm_setComposition ..)).trans
    (calm_mixedAlarms _)).trans (calm_setActivation ..)).trans (calm_startMatrix _)
theorem calm_arrive (s : State) (m : Nat) : Calm s (s.arrive m) := by
  unfold State.arrive
  split
  · exact .ite (.ite (calm_swap _) (calm_setActivation ..)) (.refl _)
  · exact .refl _
theorem calm_deferredSwap (s : State) : Calm s s.deferredSwap := by
  unfold State.deferredSwap
  split
  · exact calm_swap _
  · exact .refl _
theorem calm_sweepDrop (s : State) (d : Drop) (c : Composition) : Calm s (s.sweepDrop d c) := by
  unfold State.sweepDrop
  extract_lets u s1 s2
  have h1 : Calm s s1 := calm_recompute ..
  have h2 : Calm s1 s2 := .ite (calm_dropHold ..) (.refl _)
  exact ((h1.trans h2).trans (calm_evaluateOrder ..)).trans (calm_arbitrate ..)
theorem calm_sweepVisit (s : State) : Calm s (sweepVisit s) := by
  unfold sweepVisit
  split
  · dsimp only
    split
    · exact (calm_sweepDrop ..).trans (calm_setActivation ..)
    · exact ((calm_sweepDrop ..).trans (calm_setActivation ..)).trans (calm_flagRole ..)
  · exact .refl _
theorem calm_checkOverdue (s : State) : Calm s s.checkOverdue := .ite (calm_raise ..) (.refl _)
theorem calm_passOverdue (s : State) (m : Nat) : Calm s (s.passOverdue m) := by
  unfold State.passOverdue
  split
  · exact .ite (calm_checkOverdue _) (.refl _)
  · exact .refl _

/-! ## Subscriber and topology operations -/

theorem calm_changePath (s : State) (d : Drop) (b : Image) : Calm s (s.changePath d b) := by
  unfold State.changePath
  extract_lets u s1 s2
  have h1 : Calm s s1 := calm_recompute ..
  have h2 : Calm s1 s2 := .ite (.refl _) (calm_clearHeld ..)
  exact ((h1.trans h2).trans (calm_evaluateOrder ..)).trans (calm_arbitrate ..)
theorem calm_changeRecord (s : State) (d : Drop) (f : Subscriber → Subscriber) :
    Calm s (s.changeRecord d f) := by
  unfold State.changeRecord
  extract_lets before s1
  have h1 : Calm s s1 := calm_catchUp ..
  exact (h1.trans (calm_setSub ..)).trans (calm_changePath ..)
theorem calm_closeAccount (s : State) (d : Drop) (m : Nat) : Calm s (s.closeAccount d m) := by
  unfold State.closeAccount
  extract_lets s1 w s2 o s3 s4
  have h1 : Calm s s1 := calm_catchUp ..
  have h2 : Calm s1 s2 := calm_fold ..
  have h3 : Calm s2 s3 := .ite (calm_judge ..) (.refl _)
  have h4 : Calm s3 s4 := calm_journalWrite ..
  exact ((((h1.trans h2).trans h3).trans h4).trans (calm_setSub ..)).trans (calm_setCount ..)
theorem calm_forceOrder (s : State) (u : UnitNo) : Calm s (s.forceOrder u) := .ite (.refl _) (calm_setLeg ..)
theorem calm_installUnit (s : State) (u : UnitNo) (f : Feed) : Calm s (s.installUnit u f) :=
  (((calm_setUnit ..).trans (calm_alongUnit ..)).trans (calm_rederive ..)).trans (calm_refreshFeedPower ..)
theorem calm_moveUnit (s : State) (u : UnitNo) (a b : Feed) : Calm s (s.moveUnit u a b) :=
  ((((calm_alongUnit ..).trans (calm_setUnit ..)).trans (calm_alongUnit ..)).trans
    (calm_rederive ..)).trans ((calm_refreshPower ..).trans (calm_refreshPower ..))
theorem calm_uninstallUnit (s : State) (u : UnitNo) (f : Feed) : Calm s (s.uninstallUnit u f) := by
  unfold State.uninstallUnit
  extract_lets l t1 t2 x t3 t4
  have h1 : Calm s t1 := calm_setLeg ..
  have h2 : Calm t1 t2 := (calm_alongUnit ..).trans (calm_rederive ..)
  have h3 : Calm t2 t3 := .ite ((calm_setUnit ..).trans (calm_refreshPower ..)) (.refl _)
  have h4 : Calm t3 t4 := ((calm_clear ..).trans (calm_clear ..)).trans (calm_clear ..)
  exact ((h1.trans h2).trans h3).trans (h4.trans (calm_setUnit ..))
theorem calm_moveNode (s : State) (n : NodeNo) (a b : NodePlace) : Calm s (s.moveNode n a b) :=
  (((calm_alongPath ..).trans (calm_setNode ..)).trans (calm_alongPath ..)).trans (calm_rederive ..)
theorem calm_uninstallNode (s : State) (n : NodeNo) : Calm s (s.uninstallNode n) :=
  ((calm_setNode ..).trans (calm_clear ..)).trans (calm_clear ..)

end Sys2Proof.Machine
end

