-- ==== Sys2Proof/Laws/Codec.lean ====
section
/-!
SUPPORT. Bytes and numbers: what `beBytes` spells `beNat` reads, a frame closed with its CRC passes
the CRC check, and the images of a status block.
-/

namespace Sys2Proof.Machine

@[simp] theorem length_beBytes (k n : Nat) : (beBytes k n).length = k := by
  induction k generalizing n with
  | zero => rfl
  | succ k ih => simp [beBytes, ih]

theorem beNat_append (xs : List Byte) (b : Byte) : beNat (xs ++ [b]) = beNat xs * 256 + b.toNat := by
  simp [beNat]

theorem toNat_byte (n : Nat) : (byte n).toNat = n % 256 := by simp [byte]

@[simp] theorem byte_toNat (b : Byte) : byte b.toNat = b := by simp [byte]

/-- Reading back the bytes of a number gives the number, as far as they hold it. -/
theorem beNat_beBytes (k n : Nat) : beNat (beBytes k n) = n % 256 ^ k := by
  induction k generalizing n with
  | zero => simp [beBytes, beNat, Nat.mod_one]
  | succ k ih =>
    rw [beBytes, beNat_append, ih, toNat_byte, pow_succ, Nat.mul_comm (256 ^ k) 256, Nat.mod_mul]
    omega

theorem beNat_beBytes_of_lt {k n : Nat} (h : n < 256 ^ k) : beNat (beBytes k n) = n := by
  rw [beNat_beBytes, Nat.mod_eq_of_lt h]

/-- The number that bytes spell is below 256 to their count. -/
theorem beNat_lt (bs : List Byte) : beNat bs < 256 ^ bs.length := by
  induction bs using List.reverseRecOn with
  | nil => simp [beNat]
  | append_singleton xs b ih =>
    rw [beNat_append, List.length_append, List.length_singleton, pow_succ]
    have := b.isLt
    omega

/-- The number in `n` bytes of a body is below 256 to the `n`. -/
theorem field_lt (body : List Byte) (i n : Nat) : field body i n < 256 ^ n :=
  lt_of_lt_of_le (beNat_lt _) (Nat.pow_le_pow_right (by decide) (List.length_take_le ..))

/-- A frame closed with its CRC passes the CRC check (R170). -/
@[simp] theorem crcGood_withCrc (bs : List Byte) : crcGood (withCrc bs) = true := by
  have hlen : (withCrc bs).length - 2 = bs.length := by simp [withCrc]
  rw [crcGood, hlen]
  have h : (crc16 bs).toNat < 256 ^ 2 := (crc16 bs).isLt
  simp [withCrc, beNat_beBytes_of_lt h]

@[simp] theorem length_withCrc (bs : List Byte) : (withCrc bs).length = bs.length + 2 := by
  simp [withCrc]

@[simp] theorem length_requestFrame (code : Nat) (tag : Byte) (body : List Byte) :
    (requestFrame code tag body).length = body.length + 5 := by
  simp [requestFrame]

@[simp] theorem frameTag_requestFrame (code : Nat) (tag : Byte) (body : List Byte) :
    frameTag (requestFrame code tag body) = tag := rfl

@[simp] theorem frameBody_requestFrame (code : Nat) (tag : Byte) (body : List Byte) :
    frameBody (requestFrame code tag body) = body := by
  have h : (requestFrame code tag body).length - 5 = body.length := by simp
  rw [frameBody, h]
  simp [requestFrame, withCrc]

/-- Steps 1 and 2 of R167 find the request that a request frame carries. -/
theorem checkFrame_requestFrame {code : Nat} {body : List Byte} (tag : Byte)
    (hc : knownCode code = true) (hb : body.length ≤ 255) :
    checkFrame (requestFrame code tag body) = .request code := by
  have hcode : code ≤ 0x32 := by simp [knownCode] at hc; omega
  have hlen : (byte body.length).toNat = body.length := by rw [toNat_byte]; omega
  have hcd : (byte code).toNat = code := by rw [toNat_byte]; omega
  have hfl := length_requestFrame code tag body
  have hgood : crcGood (requestFrame code tag body) = true := crcGood_withCrc _
  have hcons : requestFrame code tag body =
      byte code :: tag :: byte body.length :: (body ++ beBytes 2 (crc16 (byte code :: tag :: byte body.length :: body)).toNat) := rfl
  rw [hcons] at hfl hgood ⊢
  simp only [checkFrame, hlen, hcd, hfl, hgood, hc, Nat.add_comm]
  simp

/-- R172: the images that the decoder reads from a status block are those the statements name. -/
theorem imagesOf_drop_two (block : List Byte) : imagesOf (block.drop 2) = tabulate 16 (blockImage block) := by
  have h (port : TapPort) : imageAt (block.drop 2) port = blockImage block port := by
    have hp : 2 + (2 * port.val + 1) = 3 + 2 * port.val := by omega
    simp [imageAt, blockImage, List.getD_eq_getElem?_getD, BitVec.msb_eq_decide, hp]
  rw [imagesOf, funext h]

end Sys2Proof.Machine
end

