-- ==== Sys2Proof/Laws/Power.lean ====
section
/-!
SUPPORT. What the end of SHUTDOWN and a reset that cuts it short do to the shutdown record and the sector CRCs (R176,
R179).
-/

namespace Sys2Proof.Machine

@[simp] theorem recordMinute_power (s : State) : s.recordMinute.power = s.power := rfl
@[simp] theorem recordMinute_freeIndex (s : State) : s.recordMinute.freeIndex = s.freeIndex := rfl
@[simp] theorem recordMinute_crcs (s : State) : s.recordMinute.crcs = s.crcs := rfl
@[simp] theorem recordMinute_clock (s : State) : s.recordMinute.clock = s.clock := rfl
@[simp] theorem recordMinute_close (s : State) : s.recordMinute.table.close = s.table.close := rfl

/-- The record that step 6 of R179 writes. -/
@[simp] theorem recordMinute_record (s : State) :
    s.recordMinute.table.record = .written true (s.clock.minute.getD s.table.lastKnown) := rfl

/-- Step 6 of R179 writes the record and nothing else. -/
theorem recordMinute_eq (s : State) :
    s.recordMinute =
      { s with
        table := { s.table with record := .written true (s.clock.minute.getD s.table.lastKnown) } } := rfl

/-- A sealing cut short has written the record, or left the state as it stands. -/
theorem cutShort_cases (s : State) :
    (Config.cutRecordWritten s.freeIndex = true ∧ s.cutShort = s.recordMinute) ∨
      (Config.cutRecordWritten s.freeIndex = false ∧ s.cutShort = s) := by
  cases h : Config.cutRecordWritten s.freeIndex <;> simp [State.cutShort, h]

@[simp] theorem cutShort_freeIndex (s : State) : s.cutShort.freeIndex = s.freeIndex := by
  rcases cutShort_cases s with ⟨-, h⟩ | ⟨-, h⟩ <;> simp [h]

@[simp] theorem cutShort_crcs (s : State) : s.cutShort.crcs = s.crcs := by
  rcases cutShort_cases s with ⟨-, h⟩ | ⟨-, h⟩ <;> simp [h]

/-- What stands in place of an unwritten CRC disagrees with its sector. -/
theorem disagreeing_ne (c old free : BitVec 16) : disagreeing c old free ≠ c := by
  unfold disagreeing
  split
  · assumption
  · split
    · bv_omega
    · assumption

/-- Each CRC of a sealing cut short is that of its sector where it was written, and disagrees where it was not. -/
theorem look_cutCrcs (crcs : Vector (BitVec 16) 512) (t : TableMemory) (draw : Nat) (k : Sector) :
    (cutUnwritten draw k = false ∧ look (cutCrcs crcs t draw) k = t.crc k) ∨
      (cutUnwritten draw k = true ∧ look (cutCrcs crcs t draw) k ≠ t.crc k) := by
  cases h : cutUnwritten draw k <;> simp [cutCrcs, look_tabulate, h, disagreeing_ne]

/-- SAFE_ENTRY in SHUTDOWN: the record, then every CRC over what its sector holds (R179). -/
theorem safeEntry_of_shutdown {s : State} (h : s.power = .shutdown) :
    safeEntry s = (s.setPower .safe).recordMinute.sealTable := by
  simp [safeEntry, h]

end Sys2Proof.Machine
end

