-- ==== Sys2Proof/Laws/Requests.lean ====
section
/-!
SUPPORT. What carrying out a request can do: the work's answer is placed, or the check that fails is, or
nothing happens (R165, R167).
-/

namespace Sys2Proof.Machine

@[simp] theorem answer_state (r : Result) (b : List Byte) (s : State) : (answer r b s).state = s := rfl
@[simp] theorem answer_result (r : Result) (b : List Byte) (s : State) : (answer r b s).result = r := rfl
@[simp] theorem answer_body (r : Result) (b : List Byte) (s : State) : (answer r b s).body = b := rfl
@[simp] theorem refuse_state (r : Result) (s : State) : (refuse r s).state = s := rfl
@[simp] theorem refuse_result (r : Result) (s : State) : (refuse r s).result = r := rfl
@[simp] theorem refuse_body (r : Result) (s : State) : (refuse r s).body = [] := rfl

/-- A placed reply of an attached port: the request is taken off, the port is REPLY_READY. -/
theorem placeReply_live (s : State) (p : Port) (tag : Byte) (r : Result) (body : List Byte) :
    s.placeReply p true ⟨tag, r, body⟩ = s.answered p tag r body := rfl

/-- What `State.isOldest` says. -/
theorem isOldest_iff (s : State) (t : Taken) :
    s.isOldest t = true ↔
      ∀ (q : Port) (u : Taken), u ∈ (s.port q).taken → u.done = none → t.number ≤ u.number := by
  simp only [State.isOldest, List.all_eq_true, List.mem_finRange, forall_const, Bool.or_eq_true,
    decide_eq_true_eq, Option.isSome_iff_ne_none, ne_eq, Classical.or_iff_not_imp_left, Classical.not_not]

/-- What carrying out does to a request whose work waits, with none taken before it. -/
theorem carryOut_oldest (row : Row) (work : Port → List Byte → State → Answer) {p : Port} {s : State} {t : Taken}
    (ht : (s.port p).taken.head? = some t) (hf : checkFrame t.frame = .request row.code) (hd : t.done = none)
    (ho : s.isOldest t = true) :
    carryOut row work p s =
      (s.answerTo row work p t).state.placeReply p t.live ((s.answerTo row work p t).replyTo t) := by
  unfold carryOut
  cases hl : (s.port p).taken with
  | nil => simp [hl] at ht
  | cons x rest =>
    obtain rfl : x = t := by simpa [hl] using ht
    simp [hf, hd, ho]

/-- Carrying out a request whose work was done before a detach places its reply (R165, R166). -/
theorem carryOut_done (row : Row) (work : Port → List Byte → State → Answer) {p : Port} {s : State} {t : Taken}
    {r : Reply} (ht : (s.port p).taken.head? = some t) (hf : checkFrame t.frame = .request row.code)
    (hd : t.done = some r) : carryOut row work p s = s.placeReply p t.live r := by
  unfold carryOut
  cases hl : (s.port p).taken with
  | nil => simp [hl] at ht
  | cons x rest =>
    obtain rfl : x = t := by simpa [hl] using ht
    simp [hf, hd]

/-- A port that held the lock a request needs passes step 4. -/
theorem lockCheck_of_held {held : List LockNo} {need : Need} {body : List Byte}
    (h : LockHeld held need body) : lockCheck need held body = none := by
  cases need with
  | nothing => rfl
  | lock n =>
    have h : n ∈ held := h
    simp [lockCheck, h]
  | block =>
    obtain ⟨d, hd, hh⟩ := h
    simp [lockCheck, hd, hh]
  | all =>
    have h : ∀ n, n ∈ held := h
    simp [lockCheck, h]

/-- A request being served passes the checks before its own. -/
theorem Serving.check {s : State} {p : Port} {row : Row} {tag : Byte} {body : List Byte}
    (h : Serving s p row tag body) : requestCheck row p (s.heldWhenTaken p) body s = none := by
  simp [requestCheck, h.normal, h.role, lockCheck_of_held h.lock, h.length]

/-- A request being served is carried out: its work, then its reply (R165, R167). -/
theorem Serving.carryOut {s : State} {p : Port} {row : Row} {tag : Byte} {body : List Byte}
    (h : Serving s p row tag body) (hc : knownCode row.code = true) (hb : row.body ≤ 255)
    (work : Port → List Byte → State → Answer) :
    outOfReset (carryOut row work p) s =
      (work p body s).state.answered p tag (work p body s).result (work p body s).body := by
  have hf := checkFrame_requestFrame tag hc (h.length ▸ hb)
  obtain ⟨_, ht, ho⟩ := h.taken
  replace ho := (isOldest_iff s _).mpr ho
  rw [outOfReset, h.running]
  show Machine.carryOut row work p s = _
  rw [carryOut_oldest row work ht hf rfl ho]
  simp [State.answerTo, Answer.replyTo, h.check, placeReply_live]

/-- A request that passes the checks before its own is carried out in NORMAL, with a body of its length. -/
theorem requestCheck_none {row : Row} {p : Port} {held : List LockNo} {body : List Byte} {s : State}
    (hc : requestCheck row p held body s = none) : s.power = .normal ∧ body.length = row.body := by
  unfold requestCheck at hc
  by_cases hp : s.power = .normal
  · refine ⟨hp, ?_⟩
    by_cases hr : (s.port p).role ∈ row.roles
    · cases hl : lockCheck row.need held body with
      | some r => simp [hp, hr, hl] at hc
      | none => simpa [hp, hr, hl] using hc
    · simp [hp, hr] at hc
  · simp [hp] at hc

/-- Carrying out a request leaves the state alone, or places a reply over the state of its work, or over
the state as it was when a check fails. -/
theorem carryOut_cases (row : Row) (work : Port → List Byte → State → Answer) (p : Port) (s : State) :
    carryOut row work p s = s ∨
      (∃ live r, carryOut row work p s = s.placeReply p live r) ∨
      ∃ held body live r, s.power = .normal ∧ requestCheck row p held body s = none ∧
        body.length = row.body ∧
        carryOut row work p s = (work p body s).state.placeReply p live r := by
  unfold carryOut
  split
  · exact .inl rfl
  · rename_i t rest h
    split
    · split
      · exact .inr (.inl ⟨_, _, rfl⟩)
      · split
        · right
          cases hc : requestCheck row p t.held (frameBody t.frame) s with
          | some r => exact .inl ⟨_, _, by simp only [State.answerTo, hc]; rfl⟩
          | none =>
            obtain ⟨hn, hb⟩ := requestCheck_none hc
            exact .inr ⟨_, _, _, _, hn, hc, hb, by simp only [State.answerTo, hc]; rfl⟩
        · exact .inl rfl
    · exact .inl rfl

/-- While a request that was taken earlier waits, carrying out leaves the state alone (log entries 6 and 33). -/
theorem carryOut_waits (row : Row) (work : Port → List Byte → State → Answer) {p q : Port} {s : State}
    {t u : Taken} (ht : (s.port p).taken.head? = some t) (hd : t.done = none) (hu : u ∈ (s.port q).taken)
    (hw : u.done = none) (hn : u.number < t.number) : carryOut row work p s = s := by
  have ho : ¬s.isOldest t = true := fun h => absurd ((isOldest_iff s t).mp h q u hu hw) (by omega)
  unfold carryOut
  cases hl : (s.port p).taken with
  | nil => rfl
  | cons x rest =>
    obtain rfl : x = t := by simpa [hl] using ht
    simp [ho, hd]

/-- During the work of a request being served, its station can gain by it. -/
theorem Serving.served {s : State} {p : Port} {row : Row} {tag : Byte} {body : List Byte}
    (h : Serving s p row tag body) : s.served p = true := by
  obtain ⟨_, ht, _⟩ := h.taken
  have hx := h.executing
  unfold State.served State.attached PortState.attached PortState.waiting
  cases hl : (s.port p).taken with
  | nil => simp [hl] at ht
  | cons t rest =>
    simp only [hl, List.head?_cons, Option.some.injEq] at ht
    subst ht
    simp [hx]

end Sys2Proof.Machine
end

