-- ==== Sys2Proof/Laws/Taking.lean ====
section
/-!
SUPPORT. The work of the requests that wait: which work a frame asks for, what `State.workNext` does, and when
nothing is left to do (R160, R165, R167); and what a minute boundary can do (R177).
-/

namespace Sys2Proof.Machine

/-- Each request has a code of its own (R171). -/
theorem requests_codes_nodup : (requests.map fun x => x.1.code).Nodup := by decide

/-- In a list of requests with codes of their own a code finds its request. -/
theorem find_code {l : List (Row × (Port → List Byte → State → Answer))}
    (hn : (l.map fun x => x.1.code).Nodup) {x : Row × (Port → List Byte → State → Answer)} (hx : x ∈ l) :
    (l.find? fun y => decide (FrameCheck.request x.1.code = .request y.1.code)) = some x := by
  induction l with
  | nil => simp at hx
  | cons y ys ih =>
    obtain ⟨hy, hn⟩ := List.nodup_cons.mp hn
    rcases List.mem_cons.mp hx with rfl | hx
    · simp
    · have hc : x.1.code ≠ y.1.code := fun e => hy (List.mem_map.mpr ⟨x, hx, e⟩)
      simpa [hc] using ih hn hx

/-- A frame with the code of a request is answered by that request's checks and work (R167, R171). -/
theorem answerOf_request {x : Row × (Port → List Byte → State → Answer)} (hx : x ∈ requests) (s : State) (p : Port)
    {t : Taken} (hf : checkFrame t.frame = .request x.1.code) : s.answerOf p t = s.answerTo x.1 x.2 p t := by
  have hb : badRequest t.frame = none := by rw [badRequest, hf]
  rw [State.answerOf, hb]
  simp only [hf, find_code requests_codes_nodup hx]

/-- The reply is kept with the oldest request whose work waited. -/
theorem keepReply_cons (r : Reply) (t : Taken) (ts : List Taken) :
    keepReply r (t :: ts) = if t.done.isNone then { t with done := some r } :: ts else t :: keepReply r ts := rfl

/-- The work of a port's oldest request is the request's, and its reply is kept. -/
theorem workNext_of_waiting {s : State} {p : Port} {t : Taken} (h : (s.port p).waiting = some t) :
    s.workNext p =
      (s.answerOf p t).state.setPort p
        { (s.answerOf p t).state.port p with
          taken := keepReply ((s.answerOf p t).replyTo t) ((s.answerOf p t).state.port p).taken } := by
  simp only [State.workNext, h]

/-- The port at work holds the oldest request of all whose work waits. -/
theorem portAtWork_oldest {s : State} {p : Port} (h : s.portAtWork = some p) :
    ∃ t, (s.port p).waiting = some t ∧ s.isOldest t = true := by
  have h := List.find?_some h
  split at h
  · simp at h
  · exact ⟨_, ‹_›, h⟩

/-- Where the work of every request is done, nothing is left to do. -/
theorem settled_of_none_waiting {s : State}
    (h : ∀ (q : Port) (t : Taken), t ∈ (s.port q).taken → t.done ≠ none) : s.settled = s := by
  have hz : (s.allTaken.countP fun t => t.done.isNone) = 0 := by
    simp only [List.countP_eq_zero, State.allTaken, List.mem_flatMap, Option.isNone_iff_eq_none]
    rintro t ⟨q, -, ht⟩
    exact h q t ht
  rw [State.settled, hz]
  rfl

/-! ## The minute boundary -/

/-- When the clock takes a minute boundary (R177). -/
theorem minuteEnds_iff (s : State) :
    s.minuteEnds = true ↔ s.clock.minute ≠ none ∧ s.power = .normal ∧ 59 ≤ s.clock.seconds := by
  simp [State.minuteEnds, Option.isSome_iff_ne_none, and_assoc]

/-- What the clock does at a minute boundary: nothing, the hold-back falls, the count rises, or it stands at its last
value (R177). -/
theorem turnMinute_cases (s : State) :
    (s.minuteEnds = false ∧ s.turnMinute = s) ∨
      ∃ m, s.minuteEnds = true ∧ s.clock.minute = some m ∧
        ((0 < s.clock.holdBack ∧
            s.turnMinute =
              s.setClock { minute := some m, seconds := 0, tenths := 0, holdBack := s.clock.holdBack - 1 }) ∨
          (s.clock.holdBack = 0 ∧ m < lastMinute ∧ s.turnMinute = s.countMinute m) ∨
          (s.clock.holdBack = 0 ∧ lastMinute ≤ m ∧
            s.turnMinute = s.setClock { minute := some m, seconds := 0, tenths := 0, holdBack := 0 })) := by
  cases he : s.minuteEnds with
  | false => exact .inl ⟨rfl, by simp [State.turnMinute, he]⟩
  | true =>
    obtain ⟨m, hm⟩ := Option.ne_none_iff_exists'.mp ((minuteEnds_iff s).mp he).1
    refine .inr ⟨m, rfl, hm, ?_⟩
    rcases Nat.eq_zero_or_pos s.clock.holdBack with hz | hp
    · refine .inr ((Nat.lt_or_ge m lastMinute).imp (fun hl => ?_) fun hl => ?_)
      · simp [State.turnMinute, he, hm, hz, hl]
      · simp [State.turnMinute, he, hm, hz, hl, Nat.not_lt.mpr hl]
    · simp [State.turnMinute, he, hm, hp]

/-- A MINUTE_BOUNDARY that does not occur changes nothing (log entry 6). -/
theorem minuteBoundary_of_not_ends {s : State} (h : s.minuteEnds = false) : minuteBoundary s = s := by
  simp [minuteBoundary, h]

/-- A MINUTE_BOUNDARY that occurs finds the work of the requests taken before it done (log entry 33). -/
theorem minuteBoundary_of_ends {s : State} (h : s.minuteEnds = true) :
    minuteBoundary s = s.settled.turnMinute := by
  simp [minuteBoundary, h]

end Sys2Proof.Machine
end

