-- ==== Sys2Proof/Laws/Works.lean ====
section
/-!
SUPPORT. The work of each request that touches neither the ports, the locks nor the clock is calm; and what
each command that is neither a request nor an event of the ports, of the clock or of power does is calm.
-/

namespace Sys2Proof.Machine

/-! ## Requests that only read -/

theorem calm_readStatus (p : Port) (b : List Byte) (s : State) : Calm s (readStatus p b s).state := .refl s
theorem calm_readLocks (p : Port) (b : List Byte) (s : State) : Calm s (readLocks p b s).state := .refl s
theorem calm_readClock (p : Port) (b : List Byte) (s : State) : Calm s (readClock p b s).state := .refl s
theorem calm_readSlotState (p : Port) (b : List Byte) (s : State) :
    Calm s (readSlotState p b s).state := .refl s
theorem calm_readCloseStatus (p : Port) (b : List Byte) (s : State) :
    Calm s (readCloseStatus p b s).state := .refl s

theorem calm_readSubscriber (p : Port) (b : List Byte) (s : State) :
    Calm s (readSubscriber p b s).state := by
  unfold readSubscriber; split <;> exact .refl s
theorem calm_readLineup (p : Port) (b : List Byte) (s : State) : Calm s (readLineup p b s).state := by
  unfold readLineup; split <;> exact .refl s
theorem calm_readLeg (p : Port) (b : List Byte) (s : State) : Calm s (readLeg p b s).state := by
  unfold readLeg; split <;> exact .refl s
theorem calm_readUnit (p : Port) (b : List Byte) (s : State) : Calm s (readUnit p b s).state := by
  unfold readUnit; split <;> exact .refl s
theorem calm_readNode (p : Port) (b : List Byte) (s : State) : Calm s (readNode p b s).state := by
  unfold readNode
  dsimp only
  split
  · split <;> exact .refl s
  · exact .refl s
  · exact .refl s
theorem calm_readJournal (p : Port) (b : List Byte) (s : State) : Calm s (readJournal p b s).state := by
  unfold readJournal; dsimp only; split <;> exact .refl s
theorem calm_readSource (p : Port) (b : List Byte) (s : State) : Calm s (readSource p b s).state := by
  unfold readSource
  split
  · exact .refl s
  · exact .ite (calm_setSource ..) (.refl s)
theorem calm_readDirect (p : Port) (b : List Byte) (s : State) : Calm s (readDirect p b s).state := by
  unfold readDirect
  split
  · exact .refl s
  · split
    · exact .refl s
    · split <;> exact .refl s
    · split <;> exact .refl s
    · split
      · rw [answer_state]
        exact calm_setLeg ..
      · exact .refl s
theorem calm_readAlarms (p : Port) (b : List Byte) (s : State) : Calm s (readAlarms p b s).state := by
  unfold readAlarms
  dsimp only
  split
  · exact .refl s
  · exact .ite (calm_setAlarms ..) (.refl s)

/-! ## The subscriber register -/

theorem calm_provision (p : Port) (b : List Byte) (s : State) : Calm s (provision p b s).state := by
  unfold provision
  split
  · exact .refl s
  · dsimp only
    split
    · exact .refl s
    · split
      · exact .refl s
      · split
        · exact .refl s
        · split
          · exact .refl s
          · rw [answer_state]
            exact (calm_setCount ..).trans (calm_changeRecord ..)
theorem calm_setTiers (p : Port) (b : List Byte) (s : State) : Calm s (setTiers p b s).state := by
  unfold setTiers
  split
  · exact .refl s
  · dsimp only
    split
    · exact .refl s
    · split
      · exact .refl s
      · rw [answer_state]
        exact calm_changeRecord ..
theorem calm_suspend (p : Port) (b : List Byte) (s : State) : Calm s (suspend p b s).state := by
  unfold suspend
  split
  · exact .refl s
  · split
    · exact .refl s
    · rw [answer_state]
      exact calm_changeRecord ..
theorem calm_resume (p : Port) (b : List Byte) (s : State) : Calm s (resume p b s).state := by
  unfold resume
  split
  · exact .refl s
  · split
    · exact .refl s
    · rw [answer_state]
      exact calm_changeRecord ..
theorem calm_vacate (p : Port) (b : List Byte) (s : State) : Calm s (vacate p b s).state := by
  unfold vacate
  split
  · exact .refl s
  · split
    · exact .refl s
    · rw [answer_state]
      exact calm_changeRecord ..
theorem calm_disconnect (p : Port) (b : List Byte) (s : State) : Calm s (disconnect p b s).state := by
  unfold disconnect
  split
  · exact .refl s
  · split
    · exact .refl s
    · split
      · exact .refl s
      · split
        · exact .refl s
        · rw [answer_state]
          exact (calm_closeAccount ..).trans (calm_changePath ..)
theorem calm_addCharge (p : Port) (b : List Byte) (s : State) : Calm s (addCharge p b s).state := by
  unfold addCharge
  split
  · exact .refl s
  · dsimp only
    split
    · exact .refl s
    · split
      · exact .refl s
      · split
        · exact .refl s
        · rw [answer_state]
          exact (((calm_catchUp ..).trans (calm_setSub ..)).trans (calm_evaluateOrder ..)).trans
            (calm_arbitrate ..)
theorem calm_reissue (p : Port) (b : List Byte) (s : State) : Calm s (reissue p b s).state := by
  unfold reissue
  split
  · exact .refl s
  · split
    · exact .refl s
    · rw [answer_state]
      exact ((calm_dropHold ..).trans (calm_forceOrder ..)).trans (calm_arbitrate ..)

/-! ## The line-up, the sources and the matrix -/

theorem calm_editSlot (p : Port) (b : List Byte) (s : State) : Calm s (editSlot p b s).state := by
  unfold editSlot
  split
  · exact calm_setTable _ _ rfl rfl
  · exact .refl s
theorem calm_copyActiveToPending (p : Port) (b : List Byte) (s : State) :
    Calm s (copyActiveToPending p b s).state := calm_setTable _ _ rfl rfl
theorem calm_scheduleActivation (p : Port) (b : List Byte) (s : State) :
    Calm s (scheduleActivation p b s).state := by
  unfold scheduleActivation
  split
  · exact .refl s
  · exact .refl s
  · unfold State.schedule
    split
    · rw [answer_state]
      exact calm_swap s
    · exact .refl s
    · split
      · rw [answer_state]
        exact calm_swap s
      · exact calm_setActivation ..
theorem calm_cancelActivation (p : Port) (b : List Byte) (s : State) :
    Calm s (cancelActivation p b s).state := by
  unfold cancelActivation
  split
  · exact .refl s
  · exact .refl s
  · exact calm_setActivation ..
theorem calm_setSourceRequest (p : Port) (b : List Byte) (s : State) : Calm s (setSource p b s).state := by
  unfold setSource
  split
  · exact .refl s
  · exact (calm_setMonitor ..).trans
      (.ite ((calm_updateSource ..).trans (calm_startMatrix _)) (.ite (calm_setSource ..) (.refl _)))
theorem calm_revertSlot (p : Port) (b : List Byte) (s : State) : Calm s (revertSlot p b s).state := by
  unfold revertSlot
  split
  · exact .refl s
  · split
    · split
      · rw [answer_state]
        exact (calm_enterSlot ..).trans (calm_startMatrix _)
      · exact .refl s
    · exact .refl s

/-! ## The legs and the plant map -/

theorem calm_setLegRequest (p : Port) (b : List Byte) (s : State) : Calm s (setLeg p b s).state := by
  unfold setLeg
  split
  · rw [answer_state]
    exact calm_setLegSettings ..
  · exact .refl s
theorem calm_startLeg (p : Port) (b : List Byte) (s : State) : Calm s (startLeg p b s).state := by
  unfold startLeg
  split
  · exact .refl s
  · exact .ite (.refl _) (((calm_setRun ..).trans (calm_setLeg ..)).trans (calm_arbitrate ..))
theorem calm_stopLeg (p : Port) (b : List Byte) (s : State) : Calm s (stopLeg p b s).state := by
  unfold stopLeg
  split
  · exact .refl s
  · exact .ite ((calm_setRun ..).trans (calm_setLeg ..)) (.refl _)
theorem calm_clearLegCounters (p : Port) (b : List Byte) (s : State) :
    Calm s (clearLegCounters p b s).state := by
  unfold clearLegCounters
  split
  · exact .refl s
  · rw [answer_state]
    exact calm_setLeg ..
theorem calm_direct (p : Port) (b : List Byte) (s : State) : Calm s (direct p b s).state := by
  unfold direct
  split
  · split
    · exact .refl s
    · split
      · exact .refl s
      · split
        · exact .refl s
        · rw [answer_state]
          exact (calm_setLeg ..).trans (calm_arbitrate ..)
  · exact .refl s
theorem calm_setUnitRequest (p : Port) (b : List Byte) (s : State) : Calm s (setUnit p b s).state := by
  unfold setUnit
  split
  · exact .refl s
  · split
    · split
      · exact .refl s
      · split
        · exact .refl s
        · split
          · rw [answer_state]
            exact calm_installUnit ..
          · split
            · exact .refl s
            · rw [answer_state]
              exact calm_moveUnit ..
    · split
      · exact .refl s
      · split
        · rw [answer_state]
          exact calm_uninstallUnit ..
        · exact .refl s
theorem calm_placeNode (s : State) (n : NodeNo) (l : Leg) (f : Feed) : Calm s (s.placeNode n l f).state := by
  unfold State.placeNode
  split
  · exact .refl s
  · split
    · exact calm_setNode ..
    · split
      · exact .refl s
      · split
        · exact .refl s
        · rw [answer_state]
          exact calm_moveNode ..
theorem calm_setNodeRequest (p : Port) (b : List Byte) (s : State) : Calm s (setNode p b s).state := by
  unfold setNode
  split
  · exact .refl s
  · split
    · split
      · exact calm_placeNode ..
      · exact .refl s
    · split
      · exact .refl s
      · split
        · exact .refl s
        · rw [answer_state]
          exact calm_uninstallNode ..

/-! ## Alarms, billing and the journal -/

theorem calm_ackAlarmRequest (p : Port) (b : List Byte) (s : State) : Calm s (ackAlarm p b s).state := by
  unfold ackAlarm
  split
  · exact .refl s
  · dsimp only
    split
    · exact .refl s
    · split
      · exact .refl s
      · rw [answer_state]
        exact calm_ackAlarm ..
theorem calm_startClose (p : Port) (b : List Byte) (s : State) : Calm s (startClose p b s).state := by
  unfold startClose
  dsimp only
  split
  · exact .refl s
  · split
    · exact .refl s
    · split
      · exact .refl s
      · split
        · exact .refl s
        · rw [answer_state]
          exact calm_beginClose ..
theorem calm_setRate (p : Port) (b : List Byte) (s : State) : Calm s (setRate p b s).state := by
  unfold setRate
  split
  · exact .refl s
  · split
    · exact calm_setTable _ _ rfl rfl
    · exact .refl s
theorem calm_setCreditThreshold (p : Port) (b : List Byte) (s : State) :
    Calm s (setCreditThreshold p b s).state := calm_setTable _ _ rfl rfl
theorem calm_releaseJournal (p : Port) (b : List Byte) (s : State) :
    Calm s (releaseJournal p b s).state := by
  unfold releaseJournal
  dsimp only
  split
  · exact (calm_setJournal ..).trans (calm_evaluateSpace _)
  · exact .refl s
theorem calm_setJournalThreshold (p : Port) (b : List Byte) (s : State) :
    Calm s (setJournalThreshold p b s).state := (calm_setJournal ..).trans (calm_evaluateSpace _)

end Sys2Proof.Machine
end

