-- ==== Sys2Proof/WellFormed.lean ====
section
/-!
DEFINITION. Which commands the environment can bring: a request frame that begins with a request code, a
reply character of at least eleven bit times, a latency in its range, sectors named once.
-/

namespace Sys2Proof

/-- A request selection: a whole byte was transferred, and the first is not 00 hex (R164). -/
def requestSelection (frame : List (BitVec 8)) : Bool :=
  match frame with
  | [] => false
  | b :: _ => decide (b ≠ 0)

/-- The samples of one character: 11 bit times of 16 samples (R57, R58). -/
def characterSamples (xs : List Level) : Bool := decide (xs.length = 176)

/-- The samples of one character, and of the hunt for its start bit before it (R58). -/
def huntedSamples (xs : List Level) : Bool := decide (176 ≤ xs.length)

/-- The latest start of a reply in microseconds: below 77.1 ms, the longest blanking time and window
together and the last unit of 0.1 ms (R62). -/
def latencyLimit : Nat := 77100

/-- Whether a command is one that the environment can bring. -/
def Instr.wellFormed (i : Instr) : Bool :=
  match i with
  | .readStatus _ => true
  | .readAttention _ => true
  | .setAttentionMask _ => true
  | .claim _ => true
  | .claimQueued _ => true
  | .release _ => true
  | .withdraw _ => true
  | .forceRelease _ => true
  | .readLocks _ => true
  | .setClock _ => true
  | .readClock _ => true
  | .provision _ => true
  | .setTiers _ => true
  | .suspend _ => true
  | .resume _ => true
  | .disconnect _ => true
  | .vacate _ => true
  | .addCharge _ => true
  | .reissue _ => true
  | .readSubscriber _ => true
  | .editSlot _ => true
  | .copyActiveToPending _ => true
  | .scheduleActivation _ => true
  | .cancelActivation _ => true
  | .readLineup _ => true
  | .readSlotState _ => true
  | .revertSlot _ => true
  | .setSource _ => true
  | .readSource _ => true
  | .setLeg _ => true
  | .startLeg _ => true
  | .stopLeg _ => true
  | .clearLegCounters _ => true
  | .readLeg _ => true
  | .direct _ => true
  | .readDirect _ => true
  | .setUnit _ => true
  | .setNode _ => true
  | .readUnit _ => true
  | .readNode _ => true
  | .ackAlarm _ => true
  | .readAlarms _ => true
  | .startClose _ => true
  | .readCloseStatus _ => true
  | .setRate _ => true
  | .setCreditThreshold _ => true
  | .readJournal _ => true
  | .releaseJournal _ => true
  | .setJournalThreshold _ => true
  | .coldStart _ => true
  | .unknownRequest _ => true
  | .requestFrameOverrun _ frame => requestSelection frame
  | .fetch _ _ => true
  | .detach _ => true
  | .attach _ => true
  | .resetAsserted => true
  | .resetRelease _ _ _ lost => decide lost.Nodup
  | .powerFailWarning => true
  | .safeEntry => true
  | .minuteBoundary => true
  | .sweepVisit => true
  | .walkVisit => true
  | .detectorReading _ _ => true
  | .holdOffExpiry _ => true
  | .matrixSelectSent => true
  | .matrixFrameReceived chars => !chars.isEmpty && chars.all characterSamples
  | .matrixAckTimeout => true
  | .pollTick _ => true
  | .sendingEnd _ => true
  | .blankingExpiry _ => true
  | .startBitConfirmed _ micros samples => decide (micros < latencyLimit) && !samples.isEmpty
  | .replyWindowExpiry _ => true
  | .replyCharacterReceived _ samples => huntedSamples samples
  | .replyQuietEnd _ => true
  | .requestFrameComplete _ frame => requestSelection frame

end Sys2Proof
end

