-- ==== Sys2Proof/Tests/Slice0.lean ====
section
/-!
SUPPORT. The model's own tests. First the checks of WellFormed, then single steps taken from the
manual's worked sequences, then, for each statement with hypotheses, a named theorem that shows
concrete states meeting them. Expected values come from the manual's text, whose section each test
names.
-/

open Sys2Proof Sys2Proof.Machine

namespace Sys2Proof.Tests

-- The tests are checked one after another: side by side they would hold one thread each.
set_option Elab.async false

/-! ## Helpers -/

/-- A controller whose port `p`, of this role, is carrying out the request of a row with this body (tag 7), taken
with the locks the port holds. -/
def ask (s : State) (p : Port) (role : Role) (row : Row) (body : List Byte) : State :=
  s.setPort p
    { PortState.fresh role with
      phase := .executing, taken := [⟨requestFrame row.code 7 body, true, s.heldBy p, 0, none⟩] }

/-- The outcome of a command read as a check of the state it answers. -/
def after (i : Instr) (s : State) (check : State → Bool) : Bool :=
  match exec i s with
  | .next t => check t
  | _ => false

/-- Whether the reply placed at port `p` has this result and this body. -/
def replied (p : Port) (r : Result) (body : List Byte) (s : State) : Bool :=
  decide ((s.port p).reply = some ⟨7, r, body⟩)

/-- The reset state with its clock RUNNING at a minute and a number of seconds. -/
def running (m seconds : Nat) : State :=
  { State.reset with
    clock := { minute := some m, seconds := seconds, tenths := 0, holdBack := 0 }
    table := { TableMemory.cold with lastKnown := m } }

/-- A state in which a port holds a lock and others wait. -/
def locked (s : State) (n : LockNo) (holder : Port) (waiters : List Port) : State :=
  s.setLock n { holder := some holder, waiters := waiters }

/-- A line-up with one program in a slot. -/
def lineupOf (i : Slot) (g : Program) : LineUp := put (Vector.replicate 48 none) i (some g)

/-- The program of slot 12 in 3.6: primary 5, fallback 9, auto-revert. -/
def slotTwelve : Program := { primary := 5, fallback := some 9, tier := 0, autoRevert := true, muted := false }

/-- A state with an active line-up, its compositions, and each named slot ON_PRIMARY. -/
def carrying (s : State) (lineup : LineUp) : State :=
  { s with
    table := { s.table with active := lineup }
    composition := compositionOf lineup
    slots := tabulate 48 fun i =>
      match look lineup i with
      | some g =>
        { state := .onPrimary, selected := some g.primary, confirmed := .source g.primary, attempts := 0 }
      | none => { SlotRuntime.cold with confirmed := .nothing }
    matrix := { queue := [], tx := none } }

/-- An installed unit fed by the leg root, in a liveness. -/
def onRoot (x : Liveness) : UnitEntry := { UnitEntry.uninstalled with feeding := some .root, liveness := x }

/-- A transaction in flight of a leg with cold settings. -/
def inFlight (k : FrameKind) (u : LegUnit) (w : Purpose) (phase : TxPhase) (chars : List RxChar) :
    Transaction :=
  { kind := k, unit := u, purpose := w, frame := [], images := none, rate := .baud19200
    filter := true, blanking := 2, window := 20, phase := phase, latency := some 65
    collected := chars, receiver := .hunting, targetGone := false }

/-- A leg that runs with this transaction. -/
def withTx (s : State) (l : Leg) (tx : Transaction) : State :=
  (s.setRun l .running).setLeg l { s.leg l with tx := some tx, tickInterval := some 50 }

/-- Clean characters. -/
def clean (bs : List Byte) : List RxChar :=
  bs.map fun b => { data := b, framingFault := false, parityFault := false }

/-- The status block of a unit with all ports OFF, these flags and this supply reading (R172). -/
def block (flags supply : Byte) : List Byte := [flags, supply] ++ List.replicate 32 0

/-- A reply frame of a unit (R172). -/
def replyOf (u : Nat) (k : FrameKind) (payload : List Byte) : List Byte :=
  withCrc ([byte (0x80 + u), k.char, byte payload.length] ++ payload)

/-! ## WellFormed refuses what the environment cannot bring -/

/-- A selection with no whole byte, or whose first byte is 00 hex, is no request frame (R164). -/
theorem test_wellFormed_request_frame :
    Instr.wellFormed (.requestFrameComplete 0 []) = false ∧
      Instr.wellFormed (.requestFrameOverrun 1 [0, 1, 0]) = false ∧
      Instr.wellFormed (.requestFrameComplete 0 [1, 1, 0]) = true := by decide

/-- A character is eleven bit times of sixteen samples (R57, R58). -/
theorem test_wellFormed_characters :
    Instr.wellFormed (.replyCharacterReceived 0 [.space]) = false ∧
      Instr.wellFormed (.matrixFrameReceived []) = false ∧
      Instr.wellFormed (.matrixFrameReceived [cleanSamples 2, [.mark]]) = false ∧
      Instr.wellFormed (.matrixFrameReceived [cleanSamples 2]) = true := by decide +kernel

/-- A start bit comes within the longest blanking and window, after some samples (R62). -/
theorem test_wellFormed_start_bit :
    Instr.wellFormed (.startBitConfirmed 0 77100 [.mark]) = false ∧
      Instr.wellFormed (.startBitConfirmed 0 77099 []) = false ∧
      Instr.wellFormed (.startBitConfirmed 0 77099 [.mark]) = true := by decide

/-- The battery loses each sector once. -/
theorem test_wellFormed_lost_sectors :
    Instr.wellFormed
      (.resetRelease (Vector.replicate 4 ⟨false, false⟩) (Vector.replicate 4 true) false [3, 3]) =
      false := by decide

/-! ## Values of the manual -/

/-- R170: the check value of the CRC over "123456789". -/
theorem test_crc_check_value :
    crc16 [0x31, 0x32, 0x33, 0x34, 0x35, 0x36, 0x37, 0x38, 0x39] = 0x29B1#16 := by decide +kernel

/-- R4: drop 2.17.05 is address 1,301, port 5 of unit 81, and needs lock 13. -/
theorem test_drop_numbers :
    dropOf 81 5 = 1301 ∧ Drop.blockLock 1301 = 13 ∧ UnitNo.leg 81 = 2 ∧ UnitNo.onLeg 81 = 17 := by decide

/-- R141: a product whose last four digits are exactly 5,000 rounds up. -/
theorem test_rounding : roundCents 1235000 = 124 := by decide

/-- The accounts of drop 0.06.11 at the close of cycle 41 (9.8). -/
def invoiced : Subscriber :=
  { Subscriber.cold with
    state := .active
    service := put (put (Vector.replicate 8 0) 0 44340) 3 34340
    credited := put (put (Vector.replicate 8 0) 0 300) 3 300
    charges := [{ code := 0x17, amount := 0x000499 }] }

/-- 9.8: the lines, the total 42.17 and the credit total 0.26. -/
theorem test_invoice :
    let lines := tierLines (put (put (Vector.replicate 8 0) 0 0x00000672) 3 0x00000215) invoiced
    let r : BillRecord :=
      { isCycle := true, saturated := false, outageOpen := false, early := false, drop := 107
        account := 0, state := .active, cycle := 41, periodStart := 1000000, periodEnd := 1044640
        lines := lines, charges := invoiced.charges }
    lines.map (fun l => (l.tier.val, l.charge, l.credit)) = [(0, 2980, 20), (3, 738, 6)] ∧
      r.total = 4217 ∧ r.creditTotal = 26 ∧ r.flags = 0 := by decide +kernel

/-- 1.7: tiers {0, 3} pass groups 0, 1 and 5, and not group 6, whose composition is {3, 5}. -/
theorem test_desired_image :
    desiredImage #v[1, 1, 2, 2, 4, 8, 0x28, 0]
      { Subscriber.cold with state := .active, tiers := some 0x09 } = { on := true, pass := 0x23 } := by
  decide +kernel

/-- 8.6: tier 3 is not delivered while group 5 is not passed, and is once it is. -/
theorem test_delivered_set :
    let comp : Composition := #v[1, 1, 2, 0, 0, 8, 0, 0]
    let x := { Subscriber.cold with state := .active, tiers := some 0x09 }
    deliveredSet comp x (some { on := true, pass := 0x03 }) = 0x01 ∧
      deliveredSet comp x (some { on := true, pass := 0x23 }) = 0x09 := by decide +kernel

/-- 4.5: the six replies and their classes. -/
theorem test_classification :
    let good := replyOf 17 .poll (block 0 0)
    let spoil := fun (k : Nat) (c : RxChar) => (clean good).set k c
    classify .poll 17 (clean good) = .valid ∧
      classify .poll 17 (spoil 12 ⟨0xFF, false, true⟩) = .lineError .parity ∧
      classify .poll 17 ((spoil 5 ⟨0, false, true⟩).take 20) = .lineError .parity ∧
      classify .poll 17 (clean (replyOf 18 .poll (block 0 0))) = .lineError .wrongPartner ∧
      classify .poll 17 (clean (replyOf 17 .poll [])) = .lineError .length ∧
      classify .poll 17 (clean good ++ clean [0]) = .lineError .overrun ∧
      classify .poll 17 (spoil 3 ⟨34, true, false⟩) = .lineError .framing ∧
      classify .poll 17 (spoil 38 ⟨0, false, false⟩) = .lineError .crc ∧
      classify .poll 17 ((clean good).take 38) = .lineError .truncated := by decide +kernel

/-- R57, R58: a space of five samples is no start bit, one of half a bit time is. -/
theorem test_start_bit :
    startConfirmed true ([.mark, .mark] ++ List.replicate 5 .space ++ List.replicate 9 .mark) = false ∧
      startConfirmed true ([.mark, .mark] ++ List.replicate 12 .space) = true ∧
      startConfirmed true (List.replicate 40 .space) = false := by decide +kernel

/-- R58: a space of seven samples is a glitch and one of eight begins a character, with the noise filter and
without; a framing fault makes the receiver wait for mark. -/
theorem test_receiver :
    (takeCharacter true (List.replicate 7 .space ++ List.replicate 200 .mark) = none ∧
        takeCharacter false (List.replicate 7 .space ++ List.replicate 200 .mark) = none) ∧
      (takeCharacter true (List.replicate 8 .space ++ List.replicate 200 .mark) =
          some { data := 0xFF, framingFault := false, parityFault := false } ∧
        takeCharacter false (List.replicate 8 .space ++ List.replicate 200 .mark) =
          some { data := 0xFF, framingFault := false, parityFault := false }) ∧
      ((takeCharacter false (List.replicate 176 .space)).map RxChar.next) = some .waiting ∧
      Receiver.waiting.take false (List.replicate 176 .space) = none ∧
      (Receiver.waiting.take false ([.mark] ++ cleanSamples 0x91)).map RxChar.data = some 0x91 := by
  decide +kernel

/-! ## Single steps -/

/-- 13.5: SET_CLOCK(6,000,007) at minute 6,000,010, seconds 20, holds the count back by 3. -/
theorem test_setClock_holds_back :
    after (.setClock 0) (ask (running 6000010 20) 0 .manager Row.setClock (beBytes 4 6000007))
      (fun t => decide (t.clock = ⟨some 6000010, 20, 0, 3⟩) && decide (t.table.lastKnown = 6000010)) =
      true := by decide +kernel

/-- 13.5: after the power failure SET_CLOCK(6,000,009) is refused CLOCK_BACKWARD. -/
theorem test_setClock_backward :
    after (.setClock 0)
      (ask { running 6000011 0 with clock := Clock.notSet } 0 .manager Row.setClock (beBytes 4 6000009))
      (replied 0 .clockBackward []) = true := by decide +kernel

/-- 13.5: a boundary with hold-back 1 keeps the count, the next raises it. -/
theorem test_minuteBoundary :
    after .minuteBoundary { running 6000010 59 with clock := ⟨some 6000010, 59, 0, 1⟩ }
        (fun t => decide (t.clock = ⟨some 6000010, 0, 0, 0⟩)) = true ∧
      after .minuteBoundary (running 6000010 59)
        (fun t => decide (t.clock = ⟨some 6000011, 0, 0, 0⟩) && decide (t.table.lastKnown = 6000011)) =
        true := by decide +kernel

/-- R178: no boundary happens in the minute that a forward jump began, at seconds 0. -/
theorem test_minuteBoundary_after_jump :
    after .minuteBoundary (running 6000010 0) (fun t => decide (t.clock = ⟨some 6000010, 0, 0, 0⟩)) = true := by
  decide +kernel

/-- R28: SP0 sends CLAIM(0), and the scheduled minute 10 arrives after that: the claim, taken first, holds the lock, and
the activation is DEFERRED. The claim is then answered OK. -/
theorem test_minuteBoundary_after_claim :
    let s := { running 9 59 with table := { TableMemory.cold with lastKnown := 9, activation := .scheduled 10 } }
    after .minuteBoundary (ask s 0 .manager Row.claim [0])
      (fun t =>
        decide (t.table.activation = .deferred 10 ∧ (t.lock 0).holder = some 0 ∧ t.clock.minute = some 10) &&
          after (.claim 0) t (fun u =>
            decide ((u.port 0).reply.map Reply.result = some .ok ∧ (u.lock 0).holder = some 0))) = true := by
  decide +kernel

/-- R178: a setting one minute below the count is taken first, and the boundary lowers its hold-back of 1 to 0. -/
theorem test_minuteBoundary_after_held_back :
    after .minuteBoundary (ask (running 6000010 59) 0 .manager Row.setClock (beBytes 4 6000009))
      (fun t => decide (t.clock = ⟨some 6000010, 0, 0, 0⟩)) = true := by decide +kernel

/-- R159, R166: a CANCEL_ACTIVATION taken while its port held lock 0 stands when the port has lost the lock since. -/
theorem test_cancelActivation_taken_with_lock :
    let s := { running 10 0 with table := { TableMemory.cold with activation := .scheduled 20 } }
    after (.cancelActivation 0) ((ask (locked s 0 0 []) 0 .manager Row.cancelActivation []).setLock 0 Lock.free)
      (fun t => replied 0 .ok [] t && decide (t.table.activation = .idle)) = true := by decide +kernel

/-- R158, R159: a FORCE_RELEASE of lock 0 is taken at SP3 and then an EDIT_SLOT at SP0, the holder. The EDIT_SLOT waits
for the FORCE_RELEASE, and is refused LOCK_REQUIRED after it. -/
theorem test_requestFrameComplete_after_force_release :
    let s := ask ((locked State.reset 0 0 []).setPort 0 { PortState.fresh .manager with phase := .idle }) 3 .manager
      Row.forceRelease [0]
    after (.requestFrameComplete 0 (requestFrame Row.editSlot.code 7 (List.replicate 7 0))) s
      (fun t =>
        decide (t.heldWhenTaken 0 = []) &&
          after (.editSlot 0) t (fun u => decide ((u.port 0).phase = .executing ∧ (u.port 0).reply = none)) &&
          after (.forceRelease 3) t (fun u =>
            replied 3 .ok [0, 0xFF] u && after (.editSlot 0) u (replied 0 .lockRequired []))) = true := by
  decide +kernel

/-- R29, R156, R159: SP0 releases lock 0 with an activation DEFERRED, and then SP1, which waits for the lock, sends
CANCEL_ACTIVATION. It waits for the RELEASE, which makes the swap, and is answered BUSY (11.8). -/
theorem test_cancelActivation_waits_for_release :
    let s := { locked State.reset 0 0 [1] with table := { TableMemory.cold with activation := .deferred 9 } }
    let s := ask (s.setPort 1 { PortState.fresh .manager with phase := .idle }) 0 .manager Row.release [0]
    after (.requestFrameComplete 1 (requestFrame Row.cancelActivation.code 7 [])) s
      (fun t =>
        after (.cancelActivation 1) t (fun u => decide (u.table.activation = .deferred 9)) &&
          after (.release 0) t (fun u =>
            decide (u.table.activation = .sweeping 0 (Vector.replicate 8 0)) &&
              after (.cancelActivation 1) u (replied 1 .busy []))) = true := by
  decide +kernel

/-- R160: SP1 sends CLAIM(18), SP0, which holds lock 18, is detached, and the CLAIM, taken first, is refused HELD; the
detach leaves the lock free. -/
theorem test_detach_after_claim :
    after (.detach 0) (ask ((locked State.reset 18 0 []).setPort 0 { PortState.fresh .manager with phase := .idle }) 1
        .billing Row.claim [18])
      (fun t =>
        decide ((t.port 1).phase = .executing ∧ (t.lock 18).holder = none) &&
          after (.claim 1) t (fun u => replied 1 .held [0] u && decide ((u.lock 18).holder = none))) = true := by
  decide +kernel

/-- R160: SP3 sends FORCE_RELEASE(18), and SP0, which holds it, is detached after that: the lock has passed to SP1, and
stays with it. -/
theorem test_detach_after_force_release :
    after (.detach 0) (ask (((locked State.reset 18 0 [1, 2]).setPort 0 { PortState.fresh .manager with phase := .idle }))
        3 .manager Row.forceRelease [18])
      (fun t =>
        after (.forceRelease 3) t (fun u =>
          replied 3 .ok [0, 1] u && decide (u.lock 18 = { holder := some 1, waiters := [2] }))) = true := by
  decide +kernel

/-- R164: data out is at FF hex during a request selection, also at a DETACHED port. -/
theorem test_requestFrameComplete_data_out :
    after (.requestFrameComplete 0 [1, 2, 0]) State.reset
      (fun t => decide ((t.port 0).dataOut = [0xFF, 0xFF, 0xFF] ∧ (t.port 0).taken = [])) = true := by
  decide +kernel

/-- R115: an entry made ACTIVE_ACKED by ACK_ALARM is no change of the list. -/
theorem test_ackAlarm_no_change :
    after (.ackAlarm 0) (ask State.reset 0 .manager Row.ackAlarm [14, 0, 0])
      (fun t =>
        decide (t.alarms.change = 2) && decide ((t.port 0).flags = 0) &&
          decide (t.alarms.entries.map AlarmEntry.state = [.activeUnacked, .activeAcked])) = true := by
  decide +kernel

/-- 11.8: a RELEASE of lock 13 passes it to SP1 with LOCK attention; SP3 moves up. -/
theorem test_release_passes :
    after (.release 0)
      (ask ((locked State.reset 13 0 [1, 3]).setPort 1 { PortState.fresh .billing with phase := .idle })
        0 .manager Row.release [13])
      (fun t =>
        replied 0 .ok [1] t && decide (t.lock 13 = ⟨some 1, [3]⟩) &&
          decide ((t.port 1).flags = 0x02)) = true := by decide +kernel

/-- 11.8: FORCE_RELEASE of lock 0 with an activation DEFERRED makes the swap, then passes the lock. -/
theorem test_forceRelease_swaps :
    after (.forceRelease 3)
      (ask
        (locked { State.reset with table := { TableMemory.cold with activation := .deferred 3000000 } }
          0 0 [3]) 3 .manager Row.forceRelease [0])
      (fun t =>
        replied 3 .ok [0, 3] t && decide (t.lock 0 = ⟨some 3, []⟩) &&
          decide (t.table.activation = .sweeping 0 (Vector.replicate 8 0))) = true := by decide +kernel

/-- R39, 3.6: SET_SOURCE(5, yes, 80, 6, 3, 30) stores persistence 4. -/
theorem test_setSource :
    after (.setSource 2) (ask State.reset 2 .monitor Row.setSource [5, 1, 80, 6, 3, 30])
      (replied 2 .ok [1, 80, 6, 4, 30]) = true := by decide +kernel

/-- The settings of source 5 in 3.6, with the source carried by slot 12. -/
def sourceFive (x : SourceRuntime) : State :=
  ((carrying (running 3100000 0) (lineupOf 12 slotTwelve)).setMonitor 5
    { monitored := true, threshold := 80, hysteresis := 6, persistence := 4, holdOff := 30 }).setSource
    5 x

/-- 3.6, 10.4: the fourth low reading loses source 5, and slot 12 goes ON_FALLBACK on source 9. -/
theorem test_detectorReading_loses :
    after (.detectorReading 5 (some 51))
      (sourceFive { SourceRuntime.fresh with state := .lossPending, belowCount := 3 })
      (fun t =>
        decide ((t.source 5).state = .lost) && decide ((t.source 5).belowCount = 0) &&
          decide ((t.slot 12).state = .onFallback) && decide ((t.slot 12).selected = some 9) &&
          decide (t.matrix.tx.map MatrixTx.frame = some [0x01, 12, 9, 0x01 ^^^ 12 ^^^ 9])) = true := by
  decide +kernel

/-- 3.6, 200.1: a reading of 88 starts the hold-off of 30 s; 84 leaves the source LOST. -/
theorem test_detectorReading_returns :
    after (.detectorReading 5 (some 88)) (sourceFive { SourceRuntime.fresh with state := .lost })
        (fun t =>
          decide ((t.source 5).state = .restorePending) && decide ((t.source 5).holdOff = some 300)) =
        true ∧
      after (.detectorReading 5 (some 84)) (sourceFive { SourceRuntime.fresh with state := .lost })
        (fun t => decide ((t.source 5).state = .lost)) = true := by decide +kernel

/-- The list of 7.5 in small: 64 entries, NODE_POWER 12 acknowledged at position 3. -/
def fullList : List AlarmEntry :=
  (List.range 64).map fun i =>
    { kind := if i = 3 then .nodePower else .unitDead
      object := if i = 3 then 12 else i
      raised := some 5200000, cleared := none
      state := if i = 3 ∨ i = 7 then .activeAcked else .activeUnacked, info := 0, bounce := 0 }

/-- 7.5: LEG_NOISE evicts NODE_POWER 12 and stands at position 63; change number 501. -/
theorem test_raise_evicts :
    let s := { running 5200010 0 with alarms := ⟨fullList, 0, false, 500⟩ }
    let t := s.raise .legNoise 1 16
    t.alarms.change = 501 ∧ t.alarms.entries.length = 64 ∧
      (t.alarms.entries[63]?.map fun e => (e.kind, e.object, e.info, e.raised)) =
        some (.legNoise, 1, 16, some 5200010) ∧
      (t.alarms.entries[6]?.map fun e => e.object) = some 7 := by decide +kernel

/-- 7.5: a MINOR raise that finds no room is counted, and sets the overflow flag. -/
theorem test_raise_unlisted :
    let s := { running 5200012 0 with alarms := ⟨(fullList.eraseIdx 3) ++ fullList.take 1, 0, false, 501⟩ }
    let t := s.raise .slotOnFallback 30 0
    t.alarms.unlisted = 1 ∧ t.alarms.overflow = true ∧ t.alarms.change = 502 := by decide +kernel

/-- Drop 107 of 8.6: authorized and delivered {0, 3} through unit 6. -/
def dropOf8_6 (began : Option Nat) (x : Liveness) (seg : Segment) : State :=
  let images : Images := Vector.replicate 16 { on := true, pass := 0x23 }
  let s := { running 1020002 0 with composition := #v[1, 1, 2, 0, 0, 8, 0, 0] }
  (s.setUnit 6
    { onRoot x with
      misses := if x = .dead then 3 else 2
      firstMiss := some 1020000
      outageBegan := began
      images := some images }).setSub 107
    { Subscriber.cold with state := .active, account := some 0, tiers := some 0x09, seg := seg }

/-- 8.6, the third miss: the segment is folded at 1,020,000 and an OUTAGE segment opens there. -/
theorem test_silence_folds_back :
    after (.replyWindowExpiry 0)
      (withTx (dropOf8_6 none .suspect ⟨some 1010000, .service, 0x09⟩) 0
        (inFlight .poll 6 .duePoll .window []))
      (fun t =>
        decide ((t.unit 6).liveness = .dead) && decide ((t.unit 6).outageBegan = some 1020000) &&
          decide ((t.sub 107).seg = ⟨some 1020000, .outage, 0x09⟩) &&
          decide (look (t.sub 107).service 0 = 10000) && decide (look (t.sub 107).service 3 = 10000)) =
      true := by decide +kernel

/-- 8.6, the VALID reply: an outage of 90 minutes is below the threshold and moves to service. -/
theorem test_valid_reply_judges :
    let s := { dropOf8_6 (some 1020000) .dead ⟨some 1020000, .outage, 0x09⟩ with
      clock := ⟨some 1020090, 0, 0, 0⟩ }
    after (.replyQuietEnd 0)
      (withTx s 0
        (inFlight .poll 6 .duePoll .receiving
          (clean
            (replyOf 6 .poll
              ([0, 0] ++ ((List.range 16).map fun _ => [0x80, 0x23]).flatten)))))
      (fun t =>
        decide ((t.unit 6).liveness = .alive) &&
          decide ((t.sub 107).seg = ⟨some 1020090, .service, 0x09⟩) &&
          decide (look (t.sub 107).service 0 = 90) && decide (look (t.sub 107).credited 0 = 0) &&
          decide (look (t.sub 107).unjudged 0 = 0)) = true := by decide +kernel

/-- 5.9: the tick that brings the due-poll queue to six turns promotion mode on. -/
theorem test_pollTick_promotes :
    let s := ((State.reset.setUnit 5 (onRoot .alive)).setUnit 4 (onRoot .alive)).setLeg 0
      { LegState.fresh with dueQueue := [0, 1, 2, 3, 4], pointer := 4 }
    after (.pollTick 0) ((s.setRun 0 .running).setLeg 0 { s.leg 0 with
        tx := some (inFlight .setports 6 .order .sending []) })
      (fun t =>
        decide ((t.leg 0).dueQueue = [0, 1, 2, 3, 4, 5]) && (t.leg 0).promotion &&
          decide ((t.leg 0).counters.promotions = 1)) = true := by decide +kernel

/-- R61, R62, 4.5: a start 6,535 microseconds after the last stop bit gives latency 65. -/
theorem test_latency :
    after (.startBitConfirmed 2 6535 ([.mark] ++ List.replicate 16 .space))
      (withTx State.reset 2 (inFlight .poll 17 .duePoll .window []))
      (fun t => decide ((t.leg 2).lastLatency = some 65)) = true := by decide +kernel

/-- R63: a start bit confirmed in RECEIVING keeps the quiet from ending the reply. -/
theorem test_startBitConfirmed_goes_on :
    after (.startBitConfirmed 2 0 ([.mark, .mark] ++ List.replicate 9 .space))
      (withTx State.reset 2 (inFlight .poll 17 .duePoll .receiving (clean [0x91])))
      (fun t =>
        decide ((t.leg 2).tx.map Transaction.receiver = some .character) &&
          after (.replyQuietEnd 2) t (fun u => decide (u.legs = t.legs))) = true := by decide +kernel

/-- R60: a reply that breaks off is TRUNCATED and counted so. -/
theorem test_replyQuietEnd_truncated :
    after (.replyQuietEnd 1)
      (withTx State.reset 1 (inFlight .poll 17 .duePoll .receiving (clean [0x91, 1])))
      (fun t => decide ((t.leg 1).counters.truncated = 1) && decide ((t.leg 1).lineErrors = 1)) =
      true := by decide +kernel

/-- R6: an account number with a digit above 9 is refused BAD_DIGIT. -/
theorem test_provision_badDigit :
    after (.provision 0)
      (ask (locked State.reset 13 0 []) 0 .manager Row.provision
        (beBytes 2 1301 ++ [0x00, 0x51, 0x23, 0x45, 0x6A, 0x09]))
      (replied 0 .badDigit []) = true := by decide +kernel

/-- 1.7: PROVISION(1301, 0051234567, {0, 3}) of a unit whose port is OFF. -/
theorem test_provision :
    let s :=
      ({ running 1200000 0 with composition := #v[1, 1, 2, 2, 4, 8, 0x28, 0] }.setUnit 81
        { onRoot .alive with images := some (Vector.replicate 16 { on := false, pass := 0 }) })
    after (.provision 0)
      (ask (locked s 13 0 []) 0 .manager Row.provision
        (beBytes 2 1301 ++ [0x00, 0x51, 0x23, 0x45, 0x67, 0x09]))
      (fun t =>
        replied 0 .ok [] t && decide ((t.sub 1301).state = .active) &&
          decide ((t.sub 1301).account = some 0x0051234567) &&
          decide ((t.sub 1301).seg = ⟨some 1200000, .none, 0⟩) &&
          decide ((t.leg 2).orderQueue = [17]) && decide (t.subscriberCount = 1)) = true := by
  decide +kernel

/-- 10.6: held and free across the wrap of the 32-bit sequence number. -/
theorem test_journal_wraps :
    let j := { Journal.cold with written := 4294967294, released := 4294963500 }
    j.held = 3794 ∧ j.free = 302 ∧ { j with written := 4294967294 + 4 }.held = 3798 := by decide +kernel

/-- R53: the third failed attempt marks the connection not known and raises MATRIX_FAULT. -/
theorem test_matrixAckTimeout :
    after .matrixAckTimeout
      { (State.reset.setSlot 0 { SlotRuntime.cold with attempts := 2, confirmed := .nothing }) with
        matrix := { queue := [], tx := some { slot := 0, sent := none, frame := [], limitRuns := true } } }
      (fun t =>
        decide (t.slot 0 = { SlotRuntime.cold with attempts := 3 }) &&
          decide ((t.alarms.entries.getLast?.map fun e => (e.kind, e.object, e.info)) =
            some (.matrixFault, 0, 64)) && decide (t.matrix.tx = none)) = true := by decide +kernel

/-- R165, R170: a fetch of an IDLE port gives NO_REPLY with tag 0 and clears the overrun flag. -/
theorem test_fetch_idle :
    after (.fetch 0 7)
      (State.reset.setPort 0 { PortState.fresh .manager with phase := .idle, overrun := true })
      (fun t => decide ((t.port 0).dataOut.take 5 = [0, 19, 1, 0, 0]) && !(t.port 0).overrun) = true := by
  decide +kernel

/-- R176: the CRC of every sector agrees with the table memory that it was computed over. -/
theorem sealTable_sectorFails (s : State) (lost : List Sector) (k : Sector) :
    s.sealTable.sectorFails lost k = decide (k ∈ lost) := by
  simp [State.sectorFails, State.sealTable, State.setCrcs, look_tabulate]

/-- R166, R176, R179: the CRCs describe table memory at the end of SHUTDOWN, also where a DETACH in SHUTDOWN has taken
the requesting port of a close away. -/
theorem test_safeEntry_seals (p : Port) (lost : List Sector) (k : Sector) :
    let s := { State.reset with power := .shutdown, table :=
      { TableMemory.cold with close := { CloseContext.cold with requester := some p } } }
    let t := safeEntry (s.forgetRequester p)
    t.power = .safe ∧ t.table.close.requester = none ∧ t.sectorFails lost k = decide (k ∈ lost) := by
  refine ⟨?_, ?_, ?_⟩ <;>
    simp [safeEntry, State.forgetRequester, State.setClose, State.setPower, State.sectorFails, State.sealTable,
      State.setCrcs, look_tabulate]

/-- R179: from the warning to the end of SHUTDOWN the record stands as it stood, and the end writes it VALID with the
minute count. -/
theorem test_safeEntry_writes_record :
    (powerFailWarning State.reset).table.record = State.reset.table.record ∧
      (safeEntry { running 6000011 0 with power := .shutdown }).table.record = .written true 6000011 := ⟨rfl, rfl⟩

/-- R179: a SHUTDOWN that reset cuts short has written its record, or leaves it as it stood. -/
theorem test_resetAsserted_record (s : State) (hr : s.inReset = false) (hp : s.power = .shutdown) :
    (resetAsserted s).table.record = s.table.record ∨
      (resetAsserted s).table.record = .written true (s.clock.minute.getD s.table.lastKnown) := by
  rcases cutShort_cases s with ⟨-, h⟩ | ⟨-, h⟩ <;> simp [resetAsserted, hr, hp, h]

/-- The controller at minute 6,000,011 with a finished SHUTDOWN and reset asserted. -/
def shutAt : State :=
  State.sealTable { running 6000011 0 with
    inReset := true
    table := { TableMemory.cold with record := .written true 6000011 } }

/-- Reset released after a warning and a finished sealing is a warm start with the last-known minute. -/
theorem test_warm_start :
    exec (.resetRelease (Vector.replicate 4 ⟨true, true⟩) (Vector.replicate 4 true) false []) shutAt =
        .next (shutAt.warmStart (Vector.replicate 4 ⟨true, true⟩) (Vector.replicate 4 true)) ∧
      (let t := shutAt.warmStart (Vector.replicate 4 ⟨true, true⟩) (Vector.replicate 4 true);
        t.startKind = .warm ∧ t.table.lastKnown = 6000011 ∧ t.clock.minute = none ∧
          (t.port 2).role = .craft) := by
  refine ⟨?_, by decide +kernel⟩
  have none_fails : shutAt.failingSectors [] = [] := by
    simp [State.failingSectors, shutAt, sealTable_sectorFails]
  have kept : resetAsserted shutAt = shutAt := rfl
  have good : shutAt.recordGood false = true := by
    simp [State.recordGood, ShutdownRecord.crcGood, shutAt, ShutdownRecord.written, State.sealTable, State.setCrcs]
  simp [exec, execResetRelease, resetRelease, kept, lostSectors, none_fails, good]

/-- R176: CRCs stand when records change, so those of the spare sectors and of every sector but 1 still agree when the
close context has changed; a lost shutdown record fails sector 0. -/
theorem test_sectors (s : State) :
    let t := s.sealTable.setClose { s.table.close with requester := some 1 }
    (∀ k : Sector, k ≠ 1 → t.sectorFails [] k = false) ∧ t.sectorFails (lostSectors true []) 0 = true := by
  refine ⟨fun k hk => ?_, by simp [State.sectorFails, lostSectors]⟩
  have other : (s.sealTable.setClose { s.table.close with requester := some 1 }).table.crc k = s.table.crc k := by
    have hv : k.val ≠ 1 := fun h => hk (Fin.ext h)
    simp only [TableMemory.crc, TableMemory.sectorBytes]
    split <;> [(split <;> first | rfl | contradiction); rfl]
  simp only [State.sectorFails]
  rw [other]
  simp [State.sealTable, State.setCrcs, State.setClose]

/-- The controller that R181 makes of one without a shutdown record, roles strapped as in log entry 1. -/
def coldStarted : State :=
  State.coldAtReset { State.reset with inReset := true }
    #v[⟨false, false⟩, ⟨false, true⟩, ⟨true, false⟩, (⟨true, true⟩ : Straps)] (Vector.replicate 4 false)
    false []

/-- R181: the reset state is that controller, but for the free values drawn. -/
theorem test_cold_start_is_reset :
    coldStarted.ports = State.reset.ports ∧ coldStarted.locks = State.reset.locks ∧
      coldStarted.slots = State.reset.slots ∧ coldStarted.sources = State.reset.sources ∧
      coldStarted.matrix = State.reset.matrix ∧ coldStarted.legs = State.reset.legs ∧
      coldStarted.roots = State.reset.roots ∧ coldStarted.alarms = State.reset.alarms ∧
      coldStarted.clock = State.reset.clock ∧ coldStarted.startKind = State.reset.startKind := by
  decide +kernel

/-- R181: and its table memory holds the cold-start values. -/
theorem test_cold_start_table : coldStarted.table.cycleNumber = 0 ∧
    coldStarted.table.record.valid = false ∧ coldStarted.table.lastKnown = 0 ∧
    coldStarted.table.creditThreshold = 240 ∧ coldStarted.table.journal.threshold = 256 := by
  decide +kernel

/-- No row of the opcode table has bits, so no word spells a command. -/
theorem test_no_words : decodeTableWord 8 1 = none := rfl

/-! ## Concrete states that meet the hypotheses of the statements -/

/-- A request in a concrete state, with what else a statement asks of that state. -/
abbrev Case := State × Port × Role × Row × List Byte × (State → Bool)

/-- The state of a case: its port is carrying out its request. -/
def stateOf (c : Case) : State := ask c.1 c.2.1 c.2.2.1 c.2.2.2.1 c.2.2.2.2.1

/-- A case meets `Asked` and the rest of its hypotheses. -/
abbrev Asks (c : Case) : Prop :=
  Asked (stateOf c) c.2.1 c.2.2.2.1 7 c.2.2.2.2.1 ∧ c.2.2.2.2.2 (stateOf c) = true

/-- A case meets `Serving` and the rest of its hypotheses. -/
abbrev Serves (c : Case) : Prop :=
  Serving (stateOf c) c.2.1 c.2.2.2.1 7 c.2.2.2.2.1 ∧ c.2.2.2.2.2 (stateOf c) = true

/-- What decides `Asks`. -/
def asksCheck (c : Case) : Bool :=
  decide (c.1.inReset = false) && decide (c.1.power = .normal) && c.2.2.2.2.2 (stateOf c)

/-- What decides `Serves`. -/
def servesCheck (c : Case) : Bool :=
  asksCheck c && decide (c.2.2.1 ∈ c.2.2.2.1.roles) &&
    decide (lockCheck c.2.2.2.1.need ((stateOf c).heldWhenTaken c.2.1) c.2.2.2.2.1 = none) &&
    decide (c.2.2.2.2.1.length = c.2.2.2.1.body)

/-- A request that passes step 4 was taken with the lock it needs. -/
theorem lockHeld_of_check {held : List LockNo} {need : Need} {body : List Byte}
    (h : lockCheck need held body = none) : LockHeld held need body := by
  cases need with
  | nothing => trivial
  | lock n => simpa [lockCheck, LockHeld] using h
  | block =>
    revert h
    simp only [lockCheck, LockHeld]
    cases hd : dropArg body <;> simp
  | all => simpa [lockCheck, LockHeld] using h

/-- A case that passes its check is asked. -/
theorem asks_of_check {c : Case} (h : asksCheck c = true) : Asks c := by
  simp only [asksCheck, Bool.and_eq_true, decide_eq_true_eq] at h
  exact ⟨⟨h.1.1, h.1.2, by simp [stateOf, ask], 0, by simp [stateOf, ask, State.heldWhenTaken],
    fun _ _ _ _ => Nat.zero_le _⟩, h.2⟩

/-- A case that passes its check is served. -/
theorem serves_of_check {c : Case} (h : servesCheck c = true) : Serves c := by
  simp only [servesCheck, Bool.and_eq_true, decide_eq_true_eq] at h
  obtain ⟨⟨⟨ha, hr⟩, hl⟩, hb⟩ := h
  have hk := asks_of_check ha
  exact ⟨⟨hk.1, by simpa [stateOf, ask, PortState.fresh] using hr, lockHeld_of_check hl, hb⟩, hk.2⟩

/-- All cases of a list that pass their checks are asked. -/
theorem all_ask (cs : List Case) (h : cs.all asksCheck = true) : ∀ c ∈ cs, Asks c := fun _ hc =>
  asks_of_check (List.all_eq_true.mp h _ hc)

/-- All cases of a list that pass their checks are served. -/
theorem all_serve (cs : List Case) (h : cs.all servesCheck = true) : ∀ c ∈ cs, Serves c := fun _ hc =>
  serves_of_check (List.all_eq_true.mp h _ hc)

/-- No further hypothesis. -/
def free : State → Bool := fun _ => true

/-- IdleStepPassesTime: reset asserted, a clock at its last tenth, a clock that is NOT_SET. -/
theorem witness_idle :
    let held := { running 9 59 with clock := ⟨some 9, 59, 9, 0⟩ }
    { State.reset with inReset := true }.inReset = true ∧ State.reset.pending = [] ∧
      State.reset.clock.minute = none ∧ State.reset.inReset = false ∧
      (held.clock.minute ≠ none ∧ held.power = .normal ∧ held.clock.seconds ≤ 59 ∧
        held.clock.tenths ≤ 9) := by decide +kernel

/-- ServiceMinuteNeverDecreases: a boundary that raises the count. -/
theorem witness_minute_rises :
    ∃ s t : State, step s = .next t ∧ s.clock.minute = some 5 ∧ t.clock.minute = some 6 :=
  ⟨{ running 5 59 with pending := [.minuteBoundary] }, _, rfl, by decide +kernel, by decide +kernel⟩

/-- The invariants that are stated over every step hold of a state with a command waiting. -/
theorem witness_invariants :
    let s := { State.reset with pending := [.minuteBoundary] }
    LocksSound s ∧ DeferredSound s ∧ AlarmsSound s ∧ ClockSound s ∧ RegisterSound s ∧ UnitsSound s ∧
      QueuesSound s ∧ MatrixSound s ∧ ∃ t, step s = .next t := by
  refine ⟨by decide +kernel, by decide +kernel, by decide +kernel,
    ⟨by decide, by decide, by decide, by decide, by decide, by decide, by intro m h; cases h⟩,
    ⟨fun d => ?_, ?_⟩, by decide +kernel, by decide +kernel, by decide +kernel, _, rfl⟩
  · have hs : ({ State.reset with pending := [.minuteBoundary] } : State).sub d = Subscriber.cold :=
      look_replicate ..
    have hu : ({ State.reset with pending := [.minuteBoundary] } : State).unit (Drop.unit d) =
        UnitEntry.uninstalled := look_replicate ..
    simp [RecordSound, hs, Subscriber.cold, State.isDead, hu, UnitEntry.uninstalled]
  · show 0 = countSubscribers (Vector.replicate 2048 Subscriber.cold)
    simp only [countSubscribers, Vector.toList_replicate, List.countP_replicate]
    rfl

/-- EarlyChecksRefuse: a role not permitted; a lock, a block lock or all locks not held; a drop missing or
above 2047; a body of another length. -/
theorem witness_early_checks :
    ∀ c ∈
      ([(State.reset, 1, .billing, Row.coldStart, [], fun _ => decide (Role.billing ∉ Row.coldStart.roles)),
        (locked State.reset 0 1 [0], 0, .manager, Row.editSlot, List.replicate 7 0,
          fun s => decide (0 ∉ s.heldWhenTaken 0)),
        (State.reset, 0, .manager, Row.vacate, [7], free),
        (State.reset, 0, .manager, Row.vacate, beBytes 2 2048, free),
        (locked State.reset 18 1 [], 0, .manager, Row.vacate, beBytes 2 2047,
          fun s => decide (18 ∉ s.heldWhenTaken 0)),
        (State.reset, 0, .manager, Row.coldStart, [], fun s => decide (18 ∉ s.heldWhenTaken 0)),
        (locked State.reset 0 0 [], 0, .manager, Row.editSlot, List.replicate 6 0,
          fun s => decide (0 ∈ s.heldWhenTaken 0))] : List Case),
      Asks c := all_ask _ (by decide +kernel)

/-- EarlyChecksRefuse, UnknownRequestIsAnswered: a request taken before SHUTDOWN; a frame that is too short,
and one with code 33 hex. -/
theorem witness_shutdown_and_bad_frames :
    let s := { ask State.reset 0 .craft Row.readStatus [] with power := .shutdown }
    s.inReset = false ∧ s.power ≠ .normal ∧ (s.port 0).phase = .executing ∧
      FirstTaken s 0 ⟨requestFrame Row.readStatus.code 7 [], true, s.heldWhenTaken 0, 0, none⟩ ∧
      FirstTaken (ask State.reset 3 .craft Row.readStatus []) 3
        ⟨requestFrame Row.readStatus.code 7 [], true, [], 0, none⟩ ∧
      ([1, 7] : List Byte).length < 3 ∧ crcGood (withCrc [0x33, 7, 0]) = true ∧
      crcGood [0x01, 7, 0, 0, 0] = false := by decide +kernel

/-- The port states that RequestFrameActsByPortState and FetchActsByPortState tell apart, and a request whose
port was detached. -/
theorem witness_port_states :
    let idle := State.reset.setPort 3 { PortState.fresh .craft with phase := .idle }
    let busy := ask State.reset 0 .craft Row.readStatus []
    let ready := State.reset.setPort 3
      { PortState.fresh .craft with phase := .replyReady, reply := some ⟨7, .ok, [1, 2]⟩ }
    let gone := State.reset.setPort 0
      { PortState.fresh .manager with
        taken := [⟨requestFrame Row.readStatus.code 7 [], false, [18], 9, none⟩] }
    (State.reset.port 0).phase = .detached ∧ (idle.port 3).phase = .idle ∧
      (busy.port 0).phase = .executing ∧
      ((busy.port 0).taken.find? Taken.live).isSome ∧ (ready.port 3).phase = .replyReady ∧
      (ready.port 3).reply = some ⟨7, .ok, [1, 2]⟩ ∧
      FirstTaken gone 0 ⟨requestFrame Row.readStatus.code 7 [], false, [18], 9, none⟩ ∧
      ((locked State.reset 18 3 []).heldBy 3) = [18] ∧
      gone.inReset = false := by decide +kernel

/-- EarlyChecksRefuse: a request of SP0 waits that was taken after one of SP3. -/
theorem witness_not_oldest :
    let s := (ask State.reset 3 .craft Row.readStatus []).setPort 0
      { PortState.fresh .manager with
        phase := .executing, taken := [⟨requestFrame Row.readLocks.code 7 [], true, [], 1, none⟩] }
    Machine.Instr.request (.readLocks 0) = some (0, Row.readLocks) ∧
      ∃ t ∈ (s.port 0).taken.head?, t.done = none ∧
        ∃ u ∈ (s.port 3).taken, u.done = none ∧ u.number < t.number := by decide +kernel

/-- RequestFrameActsByPortState: a RELEASE of lock 18 by its holder SP1, and a FORCE_RELEASE of it by a MANAGER,
wait while the first waiter SP0 and another port take a request; no request waits elsewhere. -/
theorem witness_waiting_release :
    let release := ask (locked State.reset 18 1 [0, 2]) 1 .craft Row.release [18]
    let force := ask (locked State.reset 18 1 []) 3 .manager Row.forceRelease [18]
    ((release.port 1).taken = [⟨requestFrame Row.release.code 7 [18], true, [18], 0, none⟩] ∧
        (∀ r : Port, r ≠ 1 → (release.port r).taken = []) ∧ (release.lock 18).holder = some 1 ∧
        18 ∈ release.heldAtTaking 0 ∧ 18 ∉ release.heldAtTaking 1 ∧ 18 ∉ release.heldAtTaking 2) ∧
      ((force.port 3).taken = [⟨requestFrame Row.forceRelease.code 7 [18], true, [], 0, none⟩] ∧
        (∀ r : Port, r ≠ 3 → (force.port r).taken = []) ∧ (force.port 3).role = .manager ∧
        (force.lock 18).holder ≠ none ∧ 18 ∉ force.heldAtTaking 1) ∧
      (release.power = .normal ∧ force.power = .normal) := by decide +kernel

/-- DetachAndAttach: a port that holds lock 0 with an activation DEFERRED, and a DETACHED port. -/
theorem witness_detach :
    let s := (locked { running 10 0 with table := { TableMemory.cold with activation := .deferred 9 } }
      0 2 [1]).setPort 2 { PortState.fresh .manager with phase := .idle }
    s.inReset = false ∧ (s.port 2).phase ≠ .detached ∧ (s.lock 0).holder = some 2 ∧
      s.power = .normal ∧ s.table.activation = .deferred 9 ∧ (s.port 1).phase = .detached := by
  decide +kernel

/-- DetachAndAttach: SP3 waits with a CLAIM, a CLAIM_QUEUED and a FORCE_RELEASE of lock 18 and of lock 0, which SP2
holds, SP1 waiting for it or none. -/
theorem witness_detach_races :
    let s := fun n w => (locked State.reset n 2 w).setPort 2 { PortState.fresh .manager with phase := .idle }
    let waits := fun (n : LockNo) (w : List Port) (s : State) =>
      decide ((s.port 2).phase ≠ .detached ∧ s.lock n = { holder := some 2, waiters := w } ∧
        (s.port 3).taken.length = 1 ∧ ∀ r : Port, r ≠ 3 → (s.port r).taken = [])
    ∀ c ∈
      ([(s 18 [1], 3, .manager, Row.claim, [18], waits 18 [1]), (s 18 [], 3, .manager, Row.claimQueued, [18], waits 18 []),
        (s 0 [1], 3, .manager, Row.forceRelease, [0], waits 0 [1]),
        (s 18 [3], 3, .manager, Row.forceRelease, [18], waits 18 [3])] : List Case),
      Serves c := all_serve _ (by decide +kernel)

/-- DetachAndAttach, ReplyOfDetachedPortIsLost: after a detach with a request of SP0 and one of SP3 taken the work of both
is done, and their replies wait, the one of SP0 to be lost. -/
theorem witness_work_done :
    let s := (ask State.reset 3 .craft Row.readStatus []).setPort 0
      { PortState.fresh .manager with
        phase := .executing, taken := [⟨requestFrame Row.readClock.code 9 [], true, [], 1, none⟩] }
    after (.detach 0) s (fun t =>
      decide ((t.port 0).taken.map (fun u => (u.live, u.done.map Reply.result)) = [(false, some .ok)]) &&
        decide ((t.port 3).taken.map (fun u => (u.live, u.done.map Reply.tag)) = [(true, some 7)])) = true ∧
      (FirstTaken s 3 ⟨requestFrame Row.readStatus.code 7 [], true, [], 0, none⟩ ∧
        ∀ (r : Port), r ≠ 3 → ∀ u ∈ (s.port r).taken, u.done = none → 0 < u.number) ∧
      (let kept : Taken := ⟨requestFrame Row.readStatus.code 7 [], true, [], 0, some ⟨7, .ok, []⟩⟩
       let t := s.setPort 3 { s.port 3 with taken := [kept] }
       (t.port 3).taken.head? = some kept ∧ t.inReset = false) ∧
      badRequest [1, 7] ≠ none := by decide +kernel

/-- AttentionReadAndMask: the highest mask that is taken, and the lowest that is refused. -/
theorem witness_attention :
    ∀ c ∈
      ([(State.reset, 0, .craft, Row.readAttention, [], free),
        (State.reset, 0, .craft, Row.setAttentionMask, [0x7F], free),
        (State.reset, 0, .craft, Row.setAttentionMask, [0x80], free)] : List Case),
      Serves c := all_serve _ (by decide +kernel)

/-- The reads that any role may make, with arguments at the ends of their ranges. -/
theorem witness_reads :
    ∀ c ∈
      ([(State.reset, 0, .craft, Row.readStatus, [], free), (State.reset, 3, .billing, Row.readLocks, [], free),
        (State.reset, 0, .craft, Row.readClock, [], free),
        (State.reset, 0, .craft, Row.readCloseStatus, [], free),
        (State.reset, 0, .craft, Row.readLineup, [0], free),
        (State.reset, 0, .craft, Row.readLineup, [1], free),
        (State.reset, 0, .craft, Row.readLineup, [2], free),
        (State.reset, 0, .craft, Row.readSource, [63, 1], free),
        (State.reset, 0, .craft, Row.readSource, [64, 0], free),
        (State.reset, 0, .craft, Row.readSlotState, [], free),
        (State.reset, 0, .craft, Row.readSubscriber, beBytes 2 2047, free),
        (State.reset, 0, .craft, Row.readSubscriber, beBytes 2 2048, free),
        (State.reset, 0, .craft, Row.readLeg, [3], free), (State.reset, 0, .craft, Row.readLeg, [4], free),
        (State.reset, 0, .craft, Row.readUnit, [127], free),
        (State.reset, 0, .craft, Row.readUnit, [128], free),
        (State.reset, 0, .craft, Row.readNode, [63], free),
        (State.reset, 0, .craft, Row.readNode, [64], free),
        (State.reset, 0, .craft, Row.readNode, [67], free),
        (State.reset, 0, .craft, Row.readNode, [68], free),
        (State.reset, 0, .craft, Row.readAlarms, [63, 1], free),
        (State.reset, 0, .craft, Row.readAlarms, [64, 0], free)] : List Case),
      Asks c := all_ask _ (by decide +kernel)

/-- ClaimsActByTheTable: lock 18 free, held by the requester, held by another with the requester waiting or
not. -/
theorem witness_claims :
    ∀ c ∈
      ([(State.reset, 0, .craft, Row.claim, [18], fun s => decide ((s.lock 18).holder = none)),
        (locked State.reset 18 0 [], 0, .craft, Row.claim, [18],
          fun s => decide ((s.lock 18).holder = some 0)),
        (locked State.reset 18 1 [], 0, .craft, Row.claim, [18],
          fun s => decide ((s.lock 18).holder = some 1)),
        (State.reset, 0, .craft, Row.claimQueued, [0], fun s => decide ((s.lock 0).holder = none)),
        (locked State.reset 0 0 [], 0, .craft, Row.claimQueued, [0],
          fun s => decide ((s.lock 0).holder = some 0)),
        (locked State.reset 18 1 [2], 0, .craft, Row.claimQueued, [18],
          fun s => decide (0 ∉ (s.lock 18).waiters)),
        (locked State.reset 18 1 [2, 0], 0, .craft, Row.claimQueued, [18],
          fun s => decide (0 ∈ (s.lock 18).waiters))] : List Case),
      Asks c := all_ask _ (by decide +kernel)

/-- ReleasePassesTheLock: lock 19 is none; not the holder; no waiter; a waiter that is attached. -/
theorem witness_release :
    let waiting := (locked State.reset 18 0 [3]).setPort 3 { PortState.fresh .craft with phase := .idle }
    ∀ c ∈
      ([(State.reset, 0, .manager, Row.claim, [19], free),
        (State.reset, 0, .manager, Row.claimQueued, [19], free),
        (State.reset, 0, .manager, Row.release, [19], free),
        (State.reset, 0, .manager, Row.withdraw, [19], free),
        (State.reset, 0, .manager, Row.forceRelease, [19], free),
        (locked State.reset 18 1 [0], 0, .manager, Row.release, [18],
          fun s => decide ((s.lock 18).holder ≠ some 0)),
        (locked State.reset 0 0 [], 0, .manager, Row.release, [0],
          fun s => decide ((s.lock 0).waiters = [] ∧ s.table.activation.isDeferred = false)),
        (waiting, 0, .manager, Row.release, [18],
          fun s => decide ((s.lock 18).waiters = [3] ∧ (s.port 3).phase ≠ .detached)),
        (State.reset, 0, .manager, Row.forceRelease, [18], fun s => decide ((s.lock 18).holder = none)),
        (locked State.reset 0 1 [], 0, .manager, Row.forceRelease, [0],
          fun s => decide ((s.lock 0).waiters = [])),
        (waiting, 1, .manager, Row.forceRelease, [18],
          fun s => decide ((s.lock 18).waiters = [3] ∧ (s.port 3).phase ≠ .detached))] : List Case),
      Serves c := all_serve _ (by decide +kernel)

/-- ReleaseOfLockZeroMakesTheDeferredSwap and WithdrawLeavesTheWaiterList. -/
theorem witness_deferred_release :
    let s := { running 10 0 with table := { TableMemory.cold with activation := .deferred 9 } }
    ∀ c ∈
      ([(locked s 0 0 [1], 0, .manager, Row.release, [0],
          fun t => decide (t.table.activation = .deferred 9 ∧ (t.lock 0).holder = some 0)),
        (locked s 0 1 [], 0, .manager, Row.forceRelease, [0],
          fun t => decide (t.table.activation = .deferred 9 ∧ (t.lock 0).holder = some 1)),
        (locked s 18 1 [2, 0], 0, .craft, Row.withdraw, [18],
          fun t => decide ((t.lock 18).waiters.Nodup ∧ 0 ∈ (t.lock 18).waiters)),
        (locked s 18 0 [2], 0, .craft, Row.withdraw, [18],
          fun t => decide ((t.lock 18).waiters.Nodup ∧ 0 ∉ (t.lock 18).waiters))] : List Case),
      Serves c := all_serve _ (by decide +kernel)

/-- A state SCHEDULED for a minute, with its cycle begun at minute 5. -/
def scheduled (now k : Nat) : State :=
  { running now 59 with
    table := { TableMemory.cold with
      lastKnown := now, cycleStart := some 5, activation := .scheduled k } }

/-- FirstClockSetting and RunningClockSetting: at and below the last-known minute; at the count, 1 and 60
minutes below it, and 61; from NOT_SET at the scheduled minute, with lock 0 free and held, and before it; at the last
minute before the cycle is overdue and the first at which it is, from NOT_SET and RUNNING. -/
theorem witness_set_clock :
    let unset := { running 5 0 with clock := Clock.notSet }
    let due := { scheduled 9 10 with clock := Clock.notSet }
    let waits := fun (free : Bool) (s : State) =>
      decide (s.clock.minute = none ∧ s.table.activation = .scheduled 10 ∧ (s.lock 0).holder.isNone = free)
    let cycle := fun (m : Option Nat) (s : State) =>
      decide (s.clock.minute = m ∧ s.table.cycleStart = some 5 ∧ 5 + 89280 < 89286)
    let at_ := fun m s => decide (State.clock s = ⟨m, 0, 0, 0⟩)
    ∀ c ∈
      ([(unset, 0, .manager, Row.setClock, beBytes 4 4, at_ none),
        (unset, 0, .manager, Row.setClock, beBytes 4 5, at_ none),
        (running 100 0, 0, .manager, Row.setClock, beBytes 4 100, at_ (some 100)),
        (running 100 0, 0, .manager, Row.setClock, beBytes 4 99, at_ (some 100)),
        (running 100 0, 0, .manager, Row.setClock, beBytes 4 40, at_ (some 100)),
        (running 100 0, 0, .manager, Row.setClock, beBytes 4 39, at_ (some 100)),
        (due, 0, .manager, Row.setClock, beBytes 4 10, waits true),
        (locked due 0 1 [], 0, .manager, Row.setClock, beBytes 4 10, waits false),
        (due, 0, .manager, Row.setClock, beBytes 4 9, waits true),
        (due, 0, .manager, Row.setClock, beBytes 4 89285, cycle none),
        (due, 0, .manager, Row.setClock, beBytes 4 89286, cycle none),
        (scheduled 9 100000, 0, .manager, Row.setClock, beBytes 4 89286, cycle (some 9))] : List Case),
      Serves c := all_serve _ (by decide +kernel)

/-- MinuteBoundaryTurnsTheCount and ScheduledMinuteArrives: a held count, the last minute, the minute that
makes the cycle overdue, and the scheduled minute with lock 0 free and held, no request waiting; and a forward jump and
a COLD_START that were taken first. -/
theorem witness_minute_boundary :
    let held := { running 9 59 with clock := ⟨some 9, 59, 0, 1⟩ }
    let due := (scheduled 9 10).settled
    let jumps := ask (running 9 59) 0 .manager Row.setClock (beBytes 4 9)
    let cold := ask { running 9 59 with locks := Vector.replicate 19 { holder := some 0, waiters := [] } } 0 .manager
      Row.coldStart []
    (0 < held.settled.clock.holdBack ∧ (running 9 58).clock.seconds < 59 ∧ 59 ≤ held.settled.clock.seconds) ∧
      (running 4294967295 59).settled.clock.minute = some 4294967295 ∧
      (running 4294967294 59).settled.clock.holdBack = 0 ∧
      ((scheduled 89285 100000).settled.clock.minute = some (5 + 89280) ∧
        (scheduled 89285 100000).settled.table.activation = .scheduled 100000 ∧ 89285 + 1 < 100000) ∧
      (due.table.activation = .scheduled 10 ∧ (due.lock 0).holder = none ∧ due.clock.minute = some 9 ∧
        59 ≤ due.clock.seconds ∧ due.clock.holdBack = 0) ∧
      ((locked (scheduled 9 10) 0 0 []).settled.lock 0).holder ≠ none ∧
      ((scheduled 9 10).inReset = false ∧ (scheduled 9 10).power = .normal ∧ 59 ≤ (scheduled 9 10).clock.seconds) ∧
      (jumps.minuteEnds = true ∧ jumps.settled.clock.seconds < 59) ∧
      (cold.minuteEnds = true ∧ cold.settled.clock.minute = none) := by decide +kernel

/-- MinuteBoundaryTurnsTheCount and ScheduledMinuteArrives: a SET_CLOCK to the minute, one and sixty minutes below it, a
CLAIM of lock 0 and a RELEASE of it were taken before the boundary. -/
theorem witness_boundary_races :
    let lone := fun s : State => decide ((s.port 0).taken.tail = [] ∧ ∀ q : Port, q ≠ 0 → (s.port q).taken = [])
    let ends := fun (m : Nat) s => lone s && decide (s.clock.minute = some m ∧ 59 ≤ s.clock.seconds)
    let due := fun s => ends 9 s && decide (s.clock.holdBack = 0 ∧ s.table.activation = .scheduled 10)
    ∀ c ∈
      ([(running 100 59, 0, .manager, Row.setClock, beBytes 4 100, ends 100),
        (running 100 59, 0, .manager, Row.setClock, beBytes 4 99, ends 100),
        (running 100 59, 0, .manager, Row.setClock, beBytes 4 40, ends 100),
        (scheduled 9 10, 0, .manager, Row.claim, [0], fun s => due s && decide ((s.lock 0).holder = none)),
        (locked (scheduled 9 10) 0 0 [], 0, .manager, Row.release, [0],
          fun s => due s && decide (s.lock 0 = { holder := some 0, waiters := [] }))] : List Case),
      Serves c := all_serve _ (by decide +kernel)

/-- ScheduledMinuteArrives: a forward jump to the scheduled minute, and one past it that makes the cycle overdue. -/
theorem witness_jump :
    ∀ c ∈
      ([(scheduled 9 10, 0, .manager, Row.setClock, beBytes 4 10,
          fun s => decide ((s.lock 0).holder = none)),
        (locked (scheduled 9 10) 0 1 [], 0, .manager, Row.setClock, beBytes 4 10,
          fun s => decide ((s.lock 0).holder ≠ none)),
        (scheduled 9 10, 0, .manager, Row.setClock, beBytes 4 89286,
          fun s => decide (s.table.cycleStart = some 5 ∧ 5 + 89280 < 89286))] : List Case),
      Serves c := all_serve _ (by decide +kernel)

/-- PendingLineUpIsEdited, the role and lock checks. -/
theorem witness_edit_checks :
    ∀ c ∈
      ([(State.reset, 1, .craft, Row.editSlot, List.replicate 7 0, free),
        (State.reset, 0, .manager, Row.editSlot, List.replicate 7 0,
          fun s => decide (0 ∉ s.heldWhenTaken 0)),
        (State.reset, 1, .billing, Row.copyActiveToPending, [], free),
        (State.reset, 0, .manager, Row.copyActiveToPending, [],
          fun s => decide (0 ∉ s.heldWhenTaken 0))] : List Case),
      Asks c := all_ask _ (by decide +kernel)

/-- PendingLineUpIsEdited: the arguments refused at their first value, slot 47 unassigned, and slot 47 with
and without a fallback. -/
theorem witness_edit_slot :
    let s := locked State.reset 0 0 []
    ∀ c ∈
      ([(s, 0, .manager, Row.copyActiveToPending, [], free),
        (s, 0, .manager, Row.editSlot, [48, 0, 0, 0, 0, 0, 0], free),
        (s, 0, .manager, Row.editSlot, [47, 1, 64, 0, 0, 0, 0], free),
        (s, 0, .manager, Row.editSlot, [47, 1, 0, 64, 0, 0, 0], free),
        (s, 0, .manager, Row.editSlot, [47, 1, 63, 63, 0, 0, 0], free),
        (s, 0, .manager, Row.editSlot, [47, 1, 63, 0xFF, 8, 0, 0], free),
        (s, 0, .manager, Row.editSlot, [47, 0, 64, 64, 8, 1, 1], free),
        (s, 0, .manager, Row.editSlot, [47, 1, 63, 0xFF, 7, 1, 0], free),
        (s, 0, .manager, Row.editSlot, [47, 1, 63, 62, 7, 0, 1], free)] : List Case),
      Serves c := all_serve _ (by decide +kernel)

/-- A state in which port 0 holds lock 0, with an activation context and a clock. -/
def activating (m : Option Nat) (a : Activation) : State :=
  locked
    { State.reset with
      clock := { Clock.notSet with minute := m }
      table := { TableMemory.cold with activation := a, lastKnown := m.getD 0 } } 0 0 []

/-- ActivationIsScheduledAndCancelled: NOW, the present minute and the next, each context. -/
theorem witness_schedule :
    let sweep : Activation := .sweeping 0 (Vector.replicate 8 0)
    let code := fun n s => decide ((State.table s).activation.code = n)
    ∀ c ∈
      ([(activating (some 9) sweep, 0, .manager, Row.scheduleActivation, 0 :: beBytes 4 0, code 3),
        (activating none .idle, 0, .manager, Row.scheduleActivation, 1 :: beBytes 4 0, code 0),
        (activating none .idle, 0, .manager, Row.scheduleActivation, 0 :: beBytes 4 0, code 0),
        (activating (some 9) .idle, 0, .manager, Row.scheduleActivation, 1 :: beBytes 4 9, code 0),
        (activating (some 9) (.deferred 8), 0, .manager, Row.scheduleActivation, 1 :: beBytes 4 10, code 2),
        (activating (some 9) .idle, 0, .manager, Row.cancelActivation, [], code 0),
        (activating (some 9) sweep, 0, .manager, Row.cancelActivation, [], code 3),
        (activating (some 9) (.scheduled 10), 0, .manager, Row.cancelActivation, [], code 1),
        (activating (some 9) (.deferred 9), 0, .manager, Row.cancelActivation, [], code 2)] : List Case),
      Serves c := all_serve _ (by decide +kernel)

/-- The swap of ReleaseOfLockZeroMakesTheDeferredSwap, ScheduledMinuteArrives and
ActivationIsScheduledAndCancelled over a line-up that keeps the sources of slot 12, gives slot 13 of its group
another tier, and names a LOST source. -/
theorem witness_swap :
    let s := sourceFive { SourceRuntime.fresh with state := .lost, lastReading := some 51 }
    let t := s.setTable { s.table with
      pendingLineup := put (put s.table.active 12 (some { slotTwelve with autoRevert := false })) 13
        (some { slotTwelve with primary := 6, tier := 1 }) }
    (look t.table.active 12 = some slotTwelve ∧
        look t.table.pendingLineup 12 = some { slotTwelve with autoRevert := false }) ∧
      (look t.table.active 13 = none ∧
        look t.table.pendingLineup 13 = some { slotTwelve with primary := 6, tier := 1 }) ∧
      (t.source 5).state = .lost ∧ (t.slot 12).state = .onPrimary ∧
      (Set8.has (look (compositionOf t.table.pendingLineup) 2) 0 = true ∧
        Set8.has (look (compositionOf t.table.pendingLineup) 2) 1 = true) := by decide +kernel

/-- A sweep at a drop, over drop 107 of 8.6. -/
def sweepingAt (d : Drop) : State :=
  let s := dropOf8_6 none .alive ⟨some 1010000, .service, 0x01⟩
  s.setTable { s.table with activation := .sweeping d (Vector.replicate 8 0) }

/-- SweepVisitBringsOneDropIntoLine: a drop whose delivered set differs from its held set and whose unit has
an image that differs, queued already or not, and held with the image changed; a drop with no difference, one whose unit
is not installed, and one whose unit has every image that is desired; the last drop, and SHUTDOWN. -/
theorem witness_sweep :
    (sweepingAt 107).table.activation = .sweeping 107 (Vector.replicate 8 0) ∧
      (sweepingAt 107).power = .normal ∧ (sweepingAt 107).inReset = false ∧
      (sweepingAt 107).deliveredNow 107 ≠ ((sweepingAt 107).sub 107).seg.tiers ∧
      (sweepingAt 107).installed 6 = true ∧
      ((sweepingAt 107).unit 6).images.map (fun im => look im 0) ≠
        some ((sweepingAt 107).desired (dropOf 6 0)) ∧
      (sweepingAt 0).deliveredNow 0 = ((sweepingAt 0).sub 0).seg.tiers ∧
      (sweepingAt 2047).table.activation = .sweeping 2047 (Vector.replicate 8 0) ∧
      { sweepingAt 0 with power := .shutdown }.power ≠ .normal ∧
      (sweepingAt 107).clock.minute = some 1020002 ∧
      ((sweepingAt 107).sub 107).cycle = (sweepingAt 107).table.cycleNumber ∧
      { sweepingAt 107 with clock := Clock.notSet }.clock.minute = none ∧
      (((sweepingAt 107).leg 0).orderQueue = [] ∧ ((sweepingAt 107).unit 6).held = false ∧
        (sweepingAt 107).desired 107 ≠ desiredImage (Vector.replicate 8 0) ((sweepingAt 107).sub 107)) ∧
      (let queued := (sweepingAt 107).setLeg 0 { LegState.fresh with orderQueue := [6, 5] }
       UnitNo.onLeg 6 ∈ (queued.leg (UnitNo.leg 6)).orderQueue) ∧
      (sweepingAt 0).installed 0 = false ∧
      (let s := (sweepingAt 96).setUnit 6
        { (sweepingAt 96).unit 6 with images := some (tabulate 16 fun port => (sweepingAt 96).desired (dropOf 6 port)) }
       s.installed 6 = true ∧ ∀ port : TapPort,
        (s.unit 6).images.map (fun im => look im port) = some (s.desired (dropOf 6 port))) := by decide +kernel

/-- SourceSettingsAreStored: source 64 is none; source 63 kept unmonitored, made monitored, and made
unmonitored while LOST. -/
theorem witness_set_source :
    let watched := (State.reset.setMonitor 63 { SourceSettings.cold with monitored := true }).setSource 63
      { SourceRuntime.fresh with state := .lost }
    ∀ c ∈
      ([(State.reset, 0, .monitor, Row.setSource, [64, 1, 0, 0, 0, 0], free),
        (State.reset, 0, .monitor, Row.setSource, [63, 0, 0xFF, 16, 9, 0xFF],
          fun s => decide ((s.monitor 63).monitored = false)),
        (State.reset, 0, .monitor, Row.setSource, [63, 1, 0xFF, 15, 0, 0],
          fun s => decide ((s.monitor 63).monitored = false)),
        (watched, 0, .manager, Row.setSource, [63, 0, 0, 0, 1, 0],
          fun s => decide ((s.monitor 63).monitored = true ∧ (s.source 63).state ≠ .normal)),
        (watched.setSource 63 SourceRuntime.fresh, 0, .manager, Row.setSource, [63, 0, 0, 0, 1, 0],
          fun s => decide ((s.monitor 63).monitored = true ∧ (s.source 63).state = .normal))] :
        List Case),
      Serves c := all_serve _ (by decide +kernel)

/-- DetectorReadingActsByTheTable: the readings at and beside the threshold 80 and the restore level 86, in
each state of the source, and each persistence and hold-off; a source that slot 12 names and one that none
does. -/
theorem witness_detector :
    let one := (sourceFive SourceRuntime.fresh).setMonitor 5
      { monitored := true, threshold := 80, hysteresis := 6, persistence := 1, holdOff := 0 }
    let five := sourceFive SourceRuntime.fresh
    (five.monitor 5).monitored = true ∧ (State.reset.monitor 5).monitored = false ∧
      five.power = .normal ∧ (five.source 5).state = .normal ∧ (79 : Byte).toNat < (five.monitor 5).threshold ∧
      ¬(80 : Byte).toNat < (five.monitor 5).threshold ∧ (five.monitor 5).persistence ≠ 1 ∧
      (one.monitor 5).persistence = 1 ∧ (one.monitor 5).holdOff = 0 ∧ 0 < (five.monitor 5).holdOff ∧
      min 255 ((five.monitor 5).threshold + (five.monitor 5).hysteresis) ≤ (86 : Byte).toNat ∧
      ¬min 255 ((five.monitor 5).threshold + (five.monitor 5).hysteresis) ≤ (85 : Byte).toNat ∧
      (let pending := (sourceFive { SourceRuntime.fresh with state := .lossPending, belowCount := 3 })
       (five.monitor 5).persistence ≤ (pending.source 5).belowCount + 1) ∧
      (let pending := (sourceFive { SourceRuntime.fresh with state := .lossPending, belowCount := 2 })
       (pending.source 5).belowCount + 1 < (five.monitor 5).persistence) ∧
      ((sourceFive { SourceRuntime.fresh with state := .lost }).source 5).state = .lost ∧
      ((sourceFive { SourceRuntime.fresh with state := .restorePending, holdOff := some 1 }).source 5).holdOff ≠
        none ∧
      look five.table.active 12 = some slotTwelve ∧ slotTwelve.primary = 5 ∧
      (∀ i : Slot, look five.table.active i = none ∨ look five.table.active i = some slotTwelve) ∧
      (slotTwelve.primary ≠ 63 ∧ slotTwelve.fallback ≠ some 63) := by decide +kernel

/-- HoldOffExpiresAndSlotReverts: a slot ON_FALLBACK whose primary is NORMAL, is not, and a slot ON_PRIMARY;
slot 48 is none. -/
theorem witness_revert :
    let five := fun x => (sourceFive { SourceRuntime.fresh with state := x }).setSlot 12
      { state := .onFallback, selected := some 9, confirmed := .source 9, attempts := 0 }
    let fallback := fun (x : SourceState) (s : State) =>
      decide ((s.slot 12).state = .onFallback ∧ look s.table.active 12 = some slotTwelve ∧
        (s.source 5).state = x)
    ∀ c ∈
      ([(five .normal, 2, .monitor, Row.revertSlot, [12], fallback .normal),
        (five .restorePending, 2, .monitor, Row.revertSlot, [12], fallback .restorePending),
        (sourceFive SourceRuntime.fresh, 2, .monitor, Row.revertSlot, [47],
          fun s => decide ((s.slot 47).state ≠ .onFallback)),
        (State.reset, 2, .monitor, Row.revertSlot, [48], free)] : List Case),
      Serves c := all_serve _ (by decide +kernel)

/-- The characters of a matrix frame, heard without a fault. -/
abbrev Heard (chars : List (List Level)) (bytes : List Byte) : Prop :=
  chars.filterMap (takeCharacter true) = clean bytes

/-- MatrixTransactionRunsItsCourse: frames that are no well-formed ACK: one of three characters, one with a wrong
check byte, and one with source 65. -/
theorem witness_matrix_discarded :
    ∀ bytes ∈ ([[0x02, 0x00, 0x40], [0x02, 0x2F, 0x40, 0x6C], [0x02, 0x00, 0x41, 0x43]] : List (List Byte)),
      Heard (bytes.map cleanSamples) bytes ∧
        ∀ slot src : Nat, slot ≤ 47 → src ≤ 64 →
          ¬Heard (bytes.map cleanSamples) [0x02, byte slot, byte src, 0x02 ^^^ byte slot ^^^ byte src] := by
  intro bytes hb
  have heard : Heard (bytes.map cleanSamples) bytes := by
    revert bytes
    decide +kernel
  refine ⟨heard, fun slot src _ hsrc h => ?_⟩
  have same := congrArg (List.map RxChar.data) (heard.symm.trans h)
  simp only [List.mem_cons, List.not_mem_nil, or_false] at hb
  rcases hb with rfl | rfl | rfl
  · simp [clean] at same
  · obtain ⟨hs, hk, hc⟩ : 0x2F = byte slot ∧ 0x40 = byte src ∧ 0x6C = 0x02 ^^^ byte slot ^^^ byte src := by
      simpa [clean] using same
    rw [← hs, ← hk] at hc
    exact absurd hc (by decide)
  · obtain ⟨-, hk, -⟩ : 0x00 = byte slot ∧ 0x41 = byte src ∧ 0x43 = 0x02 ^^^ byte slot ^^^ byte src := by
      simpa [clean] using same
    have := congrArg BitVec.toNat hk
    simp [byte] at this
    omega

/-- MatrixTransactionRunsItsCourse: a transaction whose limit runs, with 1 and with 2 attempts behind it, in NORMAL and
SHUTDOWN, with a slot waiting and with none; its acknowledgement and one of another slot. -/
theorem witness_matrix :
    let tx := fun runs => some ({ slot := 0, sent := none, frame := [], limitRuns := runs } : MatrixTx)
    let s := fun n => (State.reset.setMatrix { queue := [], tx := tx true }).setSlot 0
      { SlotRuntime.cold with attempts := n }
    (s 1).matrix.tx = tx true ∧ ((s 1).slot 0).attempts < 2 ∧ 2 ≤ ((s 2).slot 0).attempts ∧
      Heard (([0x02, 0x00, 0x40, 0x42] : List Byte).map cleanSamples) [0x02, 0x00, 0x40, 0x42] ∧
      Heard (([0x02, 0x2F, 0x40, 0x6D] : List Byte).map cleanSamples) [0x02, 0x2F, 0x40, 0x6D] ∧
      ((s 1).power = .normal ∧ (s 1).matrix.queue = [] ∧ { s 1 with power := .shutdown }.power ≠ .normal) ∧
      ((s 1).setMatrix { queue := [3, 0], tx := tx true }).matrix.queue = 3 :: [0] ∧
      ((s 1).slot 0).selected = none ∧ ¬(47 = (0 : Slot).val ∧ 64 = 64) ∧
      { State.reset with matrix := { queue := [], tx := none } }.matrix.tx = none ∧
      State.reset.matrix.tx.map MatrixTx.limitRuns = some false := by decide +kernel

/-- CharactersAndRepliesAreJudged: a reply of each class, by the clauses' own conditions, from the good reply of a
RANGE to unit 31. -/
theorem witness_classes :
    let good := withCrc [0x9F, 0x03, 0]
    let len := fun bs : List Byte => (bs.getD 2 0).toNat
    (good.length = 5 + FrameKind.range.replyLength ∧ crcGood good = true) ∧
      (∃ c ∈ [(⟨0, true, true⟩ : RxChar)], c.framingFault = true) ∧
      (∃ c ∈ [(⟨0, false, true⟩ : RxChar)], c.parityFault = true ∧ c.framingFault = false) ∧
      ([0x9F, 0x03] : List Byte).length < 3 ∧ (good.take 4).length < 5 + len (good.take 4) ∧
      (good.set 0 0x9E).getD 0 0 ≠ byte (0x80 + (31 : LegUnit).val) ∧
      len (withCrc [0x9F, 0x03, 1, 7]) ≠ FrameKind.range.replyLength ∧
      crcGood ((good.set 4 0).take 5) = false ∧ 5 + len good < (good ++ [0]).length := by decide +kernel

/-- LegRequestsActByTheTables: leg 4 and rate 3 are none; leg 3 with the settings beyond their ranges;
start and stop in each run state, with and without a transaction. -/
theorem witness_legs :
    let busy := withTx State.reset 3 (inFlight .poll 31 .duePoll .window [])
    let go := fun (x : RunState) (s : State) => decide (s.run 3 = x)
    let tx := fun (yes : Bool) (s : State) => decide ((s.leg 3).tx.isSome = yes)
    ∀ c ∈
      ([(State.reset, 3, .craft, Row.startLeg, [4], free), (State.reset, 3, .craft, Row.stopLeg, [4], free),
        (State.reset, 3, .craft, Row.clearLegCounters, [4], free),
        (State.reset, 3, .craft, Row.setLeg, [4, 0, 0, 0, 0, 0, 0, 0, 0], free),
        (State.reset, 3, .craft, Row.setLeg, [3, 3, 0, 0, 0, 0, 0, 0, 0], free),
        (State.reset, 3, .craft, Row.setLeg, [3, 2, 1, 16, 61, 1, 0xF5, 8, 0xFF], free),
        (State.reset, 3, .craft, Row.setLeg, [3, 0, 0, 0, 1, 0, 4, 0, 0], free),
        (busy, 3, .craft, Row.startLeg, [3], go .running),
        (State.reset, 3, .craft, Row.startLeg, [3], go .stopped),
        (busy.setRun 3 .stopping, 3, .craft, Row.startLeg, [3], tx true),
        (busy, 3, .craft, Row.stopLeg, [3], tx true),
        (State.reset.setRun 3 .running, 3, .craft, Row.stopLeg, [3], tx false),
        (State.reset, 3, .craft, Row.stopLeg, [3], go .stopped),
        (State.reset, 3, .craft, Row.clearLegCounters, [3], free)] : List Case),
      Serves c := all_serve _ (by decide +kernel)

/-- DirectTransactionIsAskedAndCollected: leg 4, unit 32 and SETPORTS are refused; each state of the slot and
of the leg. -/
theorem witness_direct :
    let slot := fun x => State.reset.setLeg 3 { LegState.fresh with direct := x }
    let job : DirectJob := { owner := 3, kind := .range, unit := 31 }
    let done := slot (.done job { outcome := .silent, block := [], latency := none })
    let go := fun (x : RunState) (s : State) => decide (s.run 3 = x)
    ∀ c ∈
      ([(State.reset, 3, .craft, Row.direct, [4, 0, 0], free),
        (State.reset, 3, .craft, Row.direct, [3, 32, 0], free),
        (State.reset, 3, .craft, Row.direct, [3, 31, 1], free),
        (slot (.submitted job), 3, .craft, Row.direct, [3, 31, 2],
          fun s => decide ((s.leg 3).direct ≠ .empty)),
        (State.reset, 3, .craft, Row.direct, [3, 31, 0], go .stopped),
        (State.reset.setRun 3 .stopping, 3, .craft, Row.direct, [3, 31, 0], go .stopping),
        (withTx State.reset 3 (inFlight .poll 31 .duePoll .window []), 3, .craft, Row.direct, [3, 31, 0],
          go .running),
        (State.reset.setRun 3 .running, 3, .craft, Row.direct, [3, 31, 2],
          fun s => decide ((s.leg 3).tx = none ∧ (s.leg 3).promotion = false)),
        (State.reset, 3, .craft, Row.readDirect, [4], free),
        (State.reset, 3, .craft, Row.readDirect, [3], fun s => decide ((s.leg 3).direct = .empty)),
        (done, 2, .craft, Row.readDirect, [3], free), (slot (.inFlight job), 3, .craft, Row.readDirect, [3], free),
        (done, 3, .craft, Row.readDirect, [3], fun s => decide ((s.leg 3).direct.code = 3))] : List Case),
      Serves c := all_serve _ (by decide +kernel)

/-- A running leg 0 with units 4 and 5 installed, a due-poll queue and an order queue. -/
def polling (due order : List LegUnit) (promotion : Bool) (tx : Option Transaction) : State :=
  (((State.reset.setUnit 4 (onRoot .alive)).setUnit 5 (onRoot .dead)).setRun 0 .running).setLeg 0
    { LegState.fresh with
      dueQueue := due, orderQueue := order, promotion := promotion, pointer := 4, tx := tx }

/-- PollTickMakesAUnitDue: no unit installed; the next unit waiting already, the sixth to wait, and another, with a
transaction in flight and on a free line with the order of a DEAD unit waiting; the pointer past the last unit and round to the
first. -/
theorem witness_poll_tick :
    let tx := some (inFlight .poll 4 .duePoll .window [])
    let s := polling [0, 1, 2, 3, 4] [] false tx
    (s.run 0 = .running ∧ s.power = .normal ∧ s.installed (unitOf 0 5) = true) ∧
      ((4 : LegUnit) < 5 ∧ ∀ v : LegUnit, 4 < v → v < 5 → s.installed (unitOf 0 v) = false) ∧
      ((s.leg 0).dueQueue.length = 5 ∧ 5 ∉ (s.leg 0).dueQueue ∧ (s.leg 0).tx ≠ none) ∧
      5 ∈ ((polling [5] [] false tx).leg 0).dueQueue ∧
      ((polling [] [] false tx).leg 0).dueQueue.length ≠ 5 ∧
      (let idle := polling [] [5] false none
       (idle.leg 0).tx = none ∧ (idle.leg 0).dueQueue = [] ∧ (idle.leg 0).direct = .empty ∧
         ∀ v ∈ (idle.leg 0).orderQueue, idle.isDead (unitOf 0 v) = true) ∧
      ((polling [0, 1, 2, 3, 4] [] false none).leg 0).tx = none ∧
      (∀ v : LegUnit, (State.reset.setRun 1 .running).installed (unitOf 1 v) = false) ∧
      (let r := s.setLeg 0 { s.leg 0 with pointer := 31 }
       (∀ v : LegUnit, (r.leg 0).pointer < v → r.installed (unitOf 0 v) = false) ∧
         ∀ v : LegUnit, v < 4 → r.installed (unitOf 0 v) = false) := by decide +kernel

/-- ArbiterChoosesInOrder, every step: a RUNNING leg whose queues hold the order of a DEAD unit alone, and a tick that
waits; a running leg with a due poll beside a free line is no such state. -/
theorem witness_arbiter_step :
    let s := { polling [] [5] false none with pending := [.pollTick 0] }
    QueuesSound s ∧ ArbiterSound s ∧ s.run 0 = .running ∧ (s.leg 0).tx = none ∧
      (∃ t, step s = .next t ∧ (t.leg 0).tx ≠ none) ∧ ¬ArbiterSound (polling [4] [] false none) :=
  ⟨by decide +kernel, by decide +kernel, by decide +kernel, by decide +kernel,
    ⟨_, rfl, by decide +kernel⟩, by decide +kernel⟩

/-- ArbiterChoosesInOrder: promotion mode, a direct transaction, an order behind a DEAD unit, a due poll with
no other work, and nothing to do. -/
theorem witness_arbiter :
    let job : DirectJob := { owner := 3, kind := .poll, unit := 4 }
    let s := polling [4, 1, 2] [5, 4] true none
    (s.run 0 = .running ∧ (s.leg 0).tx = none ∧ s.power = .normal) ∧
      ((s.leg 0).dueQueue = [4, 1, 2] ∧ (s.leg 0).promotion = true) ∧
      ((s.setLeg 0 { LegState.fresh with direct := .submitted job }).leg 0).direct = .submitted job ∧
      ((s.leg 0).orderQueue = [5] ++ 4 :: [] ∧ s.isDead (unitOf 0 5) = true ∧
        s.isDead (unitOf 0 4) = false) ∧
      (∀ v ∈ ((polling [4] [5] false none).leg 0).orderQueue, s.isDead (unitOf 0 v) = true) ∧
      ((polling [] [] false none).leg 0).dueQueue = [] := by decide +kernel

/-- TransactionPhasesFollow: each phase, blanking 0 and 2, a confirmed and an unconfirmed start, and 260
characters collected. -/
theorem witness_phases :
    let leg := fun phase => withTx State.reset 0 (inFlight .poll 0 .duePoll phase [])
    ((leg .sending).leg 0).tx.map Transaction.phase = some .sending ∧
      ((leg .blanking).leg 0).tx.map Transaction.phase = some .blanking ∧
      ((leg .window).leg 0).tx.map Transaction.phase = some .window ∧
      ((leg .receiving).leg 0).tx.map Transaction.phase = some .receiving ∧
      { inFlight .poll 0 .duePoll .sending [] with blanking := 0 }.blanking = 0 ∧
      (inFlight .poll 0 .duePoll .sending []).blanking ≠ 0 ∧
      startConfirmed false ([.mark] ++ List.replicate 8 .space) = true ∧
      startConfirmed false ([.mark] ++ List.replicate 7 .space) = false ∧
      260 ≤ (clean (List.replicate 260 0)).length ∧ (clean (List.replicate 259 0)).length < 260 ∧
      ((leg .receiving).leg 0).tx.map Transaction.receiver = some .hunting ∧
      { inFlight .poll 0 .duePoll .receiving [] with receiver := .waiting }.receiver = .waiting ∧
      Receiver.hunting.take true (List.replicate 7 .space ++ List.replicate 170 .mark) = none ∧
      (Receiver.hunting.take true (cleanSamples 0)).isSome = true := by
  decide +kernel

/-- SilenceCountsAMiss: the third miss of a unit with a SERVICE segment open, the drop lagging or not, a unit that is not installed, a
direct transaction, and a STOPPING leg; the first miss of a unit, and a drop with no tier delivered. -/
theorem witness_silence :
    let s := withTx (dropOf8_6 none .suspect ⟨some 1010000, .service, 0x09⟩) 0
      (inFlight .poll 6 .duePoll .window [])
    let job : DirectJob := { owner := 3, kind := .range, unit := 31 }
    let direct := withTx (State.reset.setLeg 1 { LegState.fresh with direct := .inFlight job }) 1
      (inFlight .range 31 .direct .window [])
    (s.inReset = false ∧ (s.leg 0).tx = some (inFlight .poll 6 .duePoll .window [])) ∧
      ((s.unit 6).feeding ≠ none ∧ (s.legSettings 0).missLimit ≤ min 7 ((s.unit 6).misses + 1) ∧
        (s.unit 6).liveness ≠ .dead ∧ (s.unit 6).misses ≠ 0 ∧ (s.unit 6).firstMiss = some 1020000) ∧
      (s.clock.minute ≠ none ∧ Drop.unit 107 = 6 ∧ (s.sub 107).seg.kind = .service ∧
        (s.sub 107).seg.start = some 1010000 ∧ (s.sub 107).cycle = s.table.cycleNumber ∧
        (s.sub 107).seg.tiers = s.deliveredNow 107 ∧ s.deliveredNow 107 ≠ 0) ∧
      ((direct.leg 1).direct = .inFlight job ∧ (direct.unit 63).feeding = none) ∧
      (direct.setRun 1 .stopping).run 1 = .stopping ∧
      ((s.pathFrom .root).Nodup ∧ (s.unit 6).feeding = some .root) ∧
      ((s.sub 96).seg.kind = .none ∧ (s.sub 96).seg.tiers = s.deliveredNow 96) ∧
      (let late := s.setTable
        { s.table with cycleNumber := 1, close := { CloseContext.cold with stamp := some 1015000 } }
       Lagging late 107 ∧ late.table.close.stamp = some 1015000 ∧
         ((late.sub 107).caughtUp 1015000).seg.start = some 1015000 ∧
         (late.sub 107).seg.tiers = late.deliveredNow 107 ∧ (late.sub 107).seg.kind = .service ∧
         CountersInRange (late.sub 107) ∧ late.deliveredNow 107 ≠ 0) ∧
      (s.clock.minute ≠ none ∧ ¬Lagging s 107) ∧
      ¬(s.legSettings 0).missLimit ≤ min 7 (0 + 1) := by decide +kernel

/-- SilenceCountsAMiss and ReplyBringsAUnitBackOrCountsAnError: the third miss of a unit with a drop that a sweep has not
reached, its NONE or SERVICE segment holding less than the recomputed set, the drop lagging or not, and one that holds more
than an empty recomputed set; and one while the clock is NOT_SET, with a set delivered and with none. -/
theorem witness_silence_unswept :
    let s := withTx (dropOf8_6 none .suspect ⟨some 1010000, .none, 0⟩) 0 (inFlight .poll 6 .duePoll .window [])
    let late := s.setTable
      { s.table with cycleNumber := 1, close := { CloseContext.cold with stamp := some 1015000, reserved := 1 } }
    let unset := { s with clock := Clock.notSet }
    ((s.unit 6).liveness ≠ .dead ∧ (s.legSettings 0).missLimit ≤ min 7 ((s.unit 6).misses + 1)) ∧
      (s.clock.minute = some 1020002 ∧ ¬Lagging s 107 ∧ (s.sub 107).seg.tiers ≠ s.deliveredNow 107 ∧
        (s.sub 107).seg.kind = .none) ∧
      (Lagging late 107 ∧ late.table.close.stamp = some 1015000 ∧ (late.sub 107).seg.tiers ≠ late.deliveredNow 107 ∧
        (late.sub 107).seg.kind = .none ∧ CountersInRange (late.sub 107)) ∧
      (∀ x ∈ [s, late],
        let x := x.setSub 107 { x.sub 107 with seg := ⟨some 1010000, .service, 0x01⟩ }
        (x.sub 107).seg.tiers ≠ x.deliveredNow 107 ∧ (x.sub 107).seg.kind = .service ∧ x.deliveredNow 107 ≠ 0) ∧
      (let bare := s.setSub 96 { s.sub 96 with seg := ⟨some 1010000, .service, 0x01⟩ }
       Drop.unit 96 = 6 ∧ (bare.sub 96).seg.tiers ≠ bare.deliveredNow 96 ∧ bare.deliveredNow 96 = 0) ∧
      (unset.clock.minute = none ∧ unset.deliveredNow 107 ≠ 0 ∧ unset.deliveredNow 96 = 0) ∧ Drop.unit 0 ≠ 6 := by
  decide +kernel

/-- R34, R119, R136, log entry 12: in that lagging case an EARLY CYCLE record is written and an OUTAGE segment opens at
the current minute. R124, R122: with the clock NOT_SET the segment becomes OUTAGE, its start absent. -/
theorem test_silence_unswept :
    let s := withTx (dropOf8_6 none .suspect ⟨some 1010000, .none, 0⟩) 0 (inFlight .poll 6 .duePoll .window [])
    let late := s.setTable
      { s.table with cycleNumber := 1, close := { CloseContext.cold with stamp := some 1015000, reserved := 1 } }
    let unset := (s.setSub 107 { s.sub 107 with seg := ⟨none, .service, 0x09⟩ }).setClock Clock.notSet
    after (.replyWindowExpiry 0) late (fun t =>
        decide ((t.sub 107).seg = ⟨some 1020002, .outage, 0x09⟩ ∧ (t.sub 107).cycle = 1 ∧
          t.table.journal.written = 1 ∧ t.table.close.reserved = 0)) = true ∧
      after (.replyWindowExpiry 0) unset (fun t =>
        decide ((t.sub 107).seg = ⟨none, .outage, 0x09⟩ ∧ look (t.sub 107).service 0 = 0)) = true := by
  decide +kernel

/-- R34, R119, R121, R124, log entry 12: at the third miss the SERVICE segment of a drop that a sweep has not reached is
folded with its held set at the first-miss minute, 10,000 minutes, or 5,000 after a catch-up close at minute 1,015,000;
the segment it leaves holds the recomputed set. -/
theorem test_silence_unswept_service :
    let s := withTx (dropOf8_6 none .suspect ⟨some 1010000, .service, 0x01⟩) 0 (inFlight .poll 6 .duePoll .window [])
    let late := s.setTable
      { s.table with cycleNumber := 1, close := { CloseContext.cold with stamp := some 1015000, reserved := 1 } }
    let left := fun (n : Nat) (t : State) =>
      decide ((t.sub 107).seg = ⟨some 1020000, .outage, 0x09⟩ ∧ look (t.sub 107).service 0 = n)
    after (.replyWindowExpiry 0) s (left (look (s.sub 107).service 0 + 10000)) = true ∧
      after (.replyWindowExpiry 0) late (left 5000) = true := by
  decide +kernel

/-- The reply of 8.6: unit 6 with all images ON, {0, 1, 5}. -/
def replyOf8_6 (k : FrameKind) : List RxChar :=
  clean (replyOf 6 k ([0, 0] ++ ((List.range 16).map fun _ => [0x80, 0x23]).flatten))

/-- ReplyBringsAUnitBackOrCountsAnError: a VALID reply of a DEAD unit, with a judgement due and with the clock
NOT_SET, and of one that is ALIVE with an image that changes, its drop lagging or not; a reply with a line error, the sixteenth in a
row; the flags and supply readings that begin and end the tamper and power alarms; a sweep before the drop; a reply to
a RANGE, one whose target was uninstalled in flight, and one to a direct transaction, on a STOPPING leg. -/
theorem witness_reply :
    let s := fun chars => withTx (dropOf8_6 (some 1020000) .dead ⟨some 1020000, .outage, 0x09⟩) 0
      (inFlight .poll 6 .duePoll .receiving chars)
    classify .poll 6 (replyOf8_6 .poll) = .valid ∧
      classify .poll 6 ((replyOf8_6 .poll).take 38) = .lineError .truncated ∧
      ((s []).unit 6).feeding ≠ none ∧ ((s []).unit 6).liveness = .dead ∧ (s []).inReset = false ∧
      (inFlight .poll 6 .duePoll .receiving []).images = none ∧
      ((inFlight .poll 6 .duePoll .receiving []).receiver ≠ .character ∧ replyOf8_6 .poll ≠ []) ∧
      ((s []).clock.minute = some 1020002 ∧ ((s []).sub 107).cycle = (s []).table.cycleNumber ∧
        CountersInRange ((s []).sub 107) ∧ ((s []).sub 107).seg.kind ≠ .service) ∧
      (let late := (s []).setTable
        { (s []).table with cycleNumber := 1, close := { CloseContext.cold with stamp := some 1020001 } }
       Lagging late 107 ∧ late.table.close.stamp = some 1020001 ∧ (late.sub 107).seg.kind = .outage ∧
         CountersInRange (late.sub 107)) ∧
      (let late := (dropOf8_6 none .alive ⟨some 1010000, .none, 0⟩).setTable
        { (dropOf8_6 none .alive ⟨some 1010000, .none, 0⟩).table with
          cycleNumber := 1, close := { CloseContext.cold with stamp := some 1015000, reserved := 1 } }
       let dark := late.setUnit 6 { late.unit 6 with images := none }
       Lagging dark 107 ∧ (dark.unit 6).images = none ∧ (dark.unit 6).liveness ≠ .dead ∧
         late.deliveredNow 107 ≠ (dark.sub 107).seg.tiers ∧ CountersInRange (dark.sub 107) ∧
         dark.table.close.stamp = some 1015000) ∧
      { s [] with clock := Clock.notSet }.clock.minute = none ∧
      (((s []).pathFrom .root).Nodup ∧ ((s []).unit 6).feeding = some .root) ∧
      (((s []).setLeg 0 { (s []).leg 0 with lineErrors := 15 }).leg 0).lineErrors = 15 ∧
      ((0x02 : Byte) &&& 0x02 ≠ 0 ∧ ((s []).unit 6).flags &&& 0x02 = 0) ∧
      (99 < ({ LegSettings.cold with warning := 100 } : LegSettings).warning ∧
        ((s []).unit 6).powerAlarm = false) ∧
      (sweepingAt 96).table.activation = .sweeping 96 (Vector.replicate 8 0) ∧ (96 : Drop) ≤ dropOf 6 0 ∧
      (((s []).unit 6).images.map (fun im => look im 0) ≠ some { on := false, pass := 0x23 }) ∧
      (let job : DirectJob := { owner := 3, kind := .range, unit := 31 }
       let tx := { inFlight .range 31 .direct .receiving (clean (replyOf 31 .range [])) with targetGone := true }
       let s := (withTx (State.reset.setLeg 1 { LegState.fresh with direct := .inFlight job }) 1 tx).setRun 1 .stopping
       classify tx.kind tx.unit tx.collected = .valid ∧ (s.leg 1).tx = some tx ∧ tx.targetGone = true ∧
         (s.unit (unitOf 1 31)).feeding = none ∧ (s.leg 1).direct = .inFlight job ∧ s.run 1 = .stopping ∧
         (s.setPort 3 { PortState.fresh .craft with phase := .idle }).inReset = false) := by
  decide +kernel

/-- OrderIsCompared: a reply to images that were overtaken, and one that disagrees with what was sent and is desired,
with 1 and with 2 attempts behind it; a reply of a unit that was DEAD, and one with RESET; one of a unit with no
confirmed image whose drop is lagging; and flags and a supply reading that begin the tamper and power alarms. -/
theorem witness_order :
    let s := fun n : Nat =>
      let s := dropOf8_6 none .alive ⟨some 1010000, .service, 0x09⟩
      s.setUnit 6 { s.unit 6 with attempts := n }
    let want := fun s : State => (tabulate 16 fun port => s.desired (dropOf 6 port) : Images)
    let heard := imagesOf ((((replyOf8_6 .setports).map RxChar.data).drop 5).take 32)
    let off : Images := Vector.replicate 16 { on := false, pass := 0 }
    classify .setports 6 (replyOf8_6 .setports) = .valid ∧ heard ≠ want (s 1) ∧ off ≠ want (s 1) ∧
      want (s 1) = put off 11 { on := true, pass := 0x23 } ∧
      ((s 1).unit 6).attempts < 2 ∧ 2 ≤ ((s 2).unit 6).attempts ∧ ((s 1).unit 6).feeding ≠ none ∧
      (((s 2).unit 6).liveness ≠ .dead ∧
        ((((replyOf8_6 .setports).map RxChar.data).drop 3).take 34).getD 0 0 &&& 0x01 = 0) ∧
      (((s 2).setUnit 6 { (s 2).unit 6 with liveness := .dead }).unit 6).liveness = .dead ∧
      (let back := clean (replyOf 6 .setports (block 1 0))
       classify .setports 6 back = .valid ∧
         (((back.map RxChar.data).drop 3).take 34).getD 0 0 &&& 0x01 ≠ 0) ∧
      (let late := (s 1).setTable
        { (s 1).table with cycleNumber := 1, close := { CloseContext.cold with stamp := some 1015000, reserved := 1 } }
       let dark := (late.setUnit 6 { late.unit 6 with images := none }).setSub 107
        { late.sub 107 with seg := ⟨some 1010000, .none, 0⟩ }
       Lagging dark 107 ∧ dark.table.close.stamp = some 1015000 ∧ ImageChanged dark 6 (block 6 9) (Drop.port 107) ∧
         ((block 6 9).getD 0 0 &&& 0x02 ≠ 0 ∧ (dark.unit 6).flags &&& 0x02 = 0) ∧
         (dark.unit 6).powerAlarm = false ∧ CountersInRange (dark.sub 107)) := by decide +kernel

/-- R65, R70, R83, R94, R101 to R103: a VALID reply to an order is applied like one to a poll. It ends the run of line
errors, begins UNIT_TAMPER and NODE_POWER, ends the outage of a DEAD unit and folds its drop, and the order, sent with
images that are no longer desired, goes to the tail. -/
theorem test_order_applied :
    let s := dropOf8_6 (some 1020000) .dead ⟨some 1020000, .outage, 0x09⟩
    let heard := clean (replyOf 6 .setports ([0x06, 0] ++ ((List.range 16).map fun _ => [0x80, 0x23]).flatten))
    let tx := { inFlight .setports 6 .order .receiving heard with
      images := some (Vector.replicate 16 { on := true, pass := 0x23 }) }
    after (.replyQuietEnd 0) (withTx (s.setLeg 0 { s.leg 0 with orderQueue := [6, 7], lineErrors := 20 }) 0 tx)
        (fun t =>
          decide ((t.leg 0).lineErrors = 0 ∧ (t.leg 0).counters.validReplies = 1 ∧ (t.leg 0).orderQueue = [7, 6] ∧
            (t.unit 6).liveness = .alive ∧ (t.unit 6).flags = 0x06 ∧ (t.unit 6).supply = some 0 ∧
            (t.unit 6).powerAlarm = true ∧ (t.sub 107).seg = ⟨some 1020002, .service, 0x09⟩ ∧
            (t.alarms.entries.drop s.alarms.entries.length).map AlarmEntry.kind = [.unitTamper, .nodePower])) = true := by
  decide +kernel

/-- OrderIsCompared, the complete case: the sixteen drops of unit 6 are ACTIVE with the tiers that the images of
the reply stand for, and the transaction has heard that reply. -/
theorem witness_order_complete :
    let s := (List.finRange 16).foldl
      (fun s port => State.setSub s (dropOf 6 port)
        { Subscriber.cold with state := .active, account := some 0, tiers := some 0x09 })
      (dropOf8_6 none .alive ⟨some 1010000, .service, 0x09⟩)
    let tx := { inFlight .setports 6 .order .receiving (replyOf8_6 .setports) with
      images := some (Vector.replicate 16 { on := true, pass := 0x23 }) }
    let t := withTx s 0 tx
    (t.inReset = false ∧ (t.leg 0).tx = some tx ∧ tx.phase = .receiving ∧ tx.receiver ≠ .character ∧
        tx.kind = .setports ∧ tx.targetGone = false) ∧
      classify tx.kind tx.unit tx.collected = .valid ∧
      imagesOf ((((tx.collected.map RxChar.data).drop 3).take 34).drop 2) =
        (tabulate 16 fun port => t.desired (dropOf (unitOf 0 tx.unit) port) : Images) ∧
      ((t.unit 6).feeding ≠ none ∧ (t.unit 6).liveness ≠ .dead) ∧
      (((tx.collected.map RxChar.data).drop 3).take 34).getD 0 0 &&& 0x01 = 0 := by decide +kernel

/-- A plant map with nodes 10 and 11 on leg 3, unit 96 under node 11, and lock 2 held by port 0. -/
def planted : State :=
  locked
    (((State.reset.setNode 10
        { place := some { leg := 3, parent := .root }, tally := Tally.zero }).setNode 11
        { place := some { leg := 3, parent := .node 10 }, tally := { Tally.zero with units := 1 } }).setUnit
      96 { UnitEntry.uninstalled with feeding := some (.node 11) }) 2 0 []

/-- A statement about what an option holds, decided by looking into it. -/
theorem of_all {α : Type} {P : α → Prop} [DecidablePred P] {o : Option α}
    (h : (o.all fun f => decide (P f)) = true) : ∀ f, o = some f → P f := fun f hf => by
  subst hf
  simpa using h

/-- RegisterAndUnitTableStaySound: that plant map with the counts of its one unit; QueuesStaySound: a free matrix link with
nothing in its queue. -/
theorem witness_plant :
    let one : Tally := { Tally.zero with units := 1 }
    let s := ((planted.setRoot 3 one).setNode 10 { planted.node 10 with tally := one }).setMatrix
      { queue := [], tx := none }
    UnitsSound s ∧ PlantSound s ∧ MatrixSound s ∧ ∃ t, step { s with pending := [.setUnit 0] } = .next t := by
  intro one s
  refine ⟨by decide +kernel, ⟨?_, ?_, by decide +kernel, ?_, ?_, ?_⟩, by decide +kernel, _, rfl⟩
  · have h : ∀ u : UnitNo, ((s.unit u).feeding.all fun f => decide (FeedSound s (UnitNo.leg u) f)) = true := by
      decide +kernel
    exact fun u => of_all (h u)
  · have h : ∀ n : NodeNo, ((s.node n).place.all fun p =>
        decide (FeedSound s p.leg p.parent ∧ n ∉ s.pathFrom p.parent ∧ s.depth n ≤ 8)) = true := by
      decide +kernel
    exact fun n => of_all (h n)
  · exact fun n =>
      ⟨(by decide +kernel : ∀ n : NodeNo, (s.node n).tally.units = (List.finRange 128).countP fun u =>
          match (s.unit u).feeding with
          | some f => decide (n ∈ s.pathFrom f)
          | none => false) n,
        (by decide +kernel : ∀ n : NodeNo, (s.node n).tally.dead = (List.finRange 128).countP fun u =>
          (match (s.unit u).feeding with
          | some f => decide (n ∈ s.pathFrom f)
          | none => false) && s.isDead u) n,
        (by decide +kernel : ∀ n : NodeNo, (s.node n).tally.out = true ↔
          1 ≤ (s.node n).tally.units ∧ (s.node n).tally.dead = (s.node n).tally.units) n⟩
  · exact fun l =>
      ⟨(by decide +kernel : ∀ l : Leg, (s.root l).units = (List.finRange 128).countP fun u =>
          s.installed u && decide (UnitNo.leg u = l)) l,
        (by decide +kernel : ∀ l : Leg, (s.root l).dead = (List.finRange 128).countP fun u =>
          (s.installed u && decide (UnitNo.leg u = l)) && s.isDead u) l,
        (by decide +kernel : ∀ l : Leg, (s.root l).out = true ↔
          1 ≤ (s.root l).units ∧ (s.root l).dead = (s.root l).units) l⟩
  · intro l f
    cases f with
    | node n =>
      exact (by decide +kernel : ∀ (l : Leg) (n : NodeNo), FeedSound s l (.node n) →
        (powerStateOf s l (.node n) = true ↔ ∃ u, PowerUnit s l (.node n) u)) l n
    | root =>
      exact (by decide +kernel : ∀ l : Leg, FeedSound s l .root →
        (powerStateOf s l .root = true ↔ ∃ u, PowerUnit s l .root u)) l

/-- UnitsAreInstalledMovedAndUninstalled: unit 128 and feeding place 65 are none; a node of another leg; a
unit installed, left, moved and uninstalled, with and without a subscriber, as one of three due polls with its order in
flight, and moved and uninstalled while DEAD with a power alarm. -/
theorem witness_set_unit :
    let taken := planted.setSub 1536 { Subscriber.cold with state := .disconnected }
    let dead := planted.setUnit 96 { planted.unit 96 with liveness := .dead, powerAlarm := true }
    let busy := planted.setLeg 3 { LegState.fresh with
      dueQueue := [1, 0, 2], orderQueue := [0], promotion := true, tx := some (inFlight .setports 0 .order .window []) }
    let alarmed := fun s : State =>
      decide ((s.unit 96).powerAlarm = true ∧ (s.unit 96).liveness = .dead ∧
        (s.pathFrom (.node 11)).Nodup ∧ (s.pathFrom (.node 10)).Nodup)
    ∀ c ∈
      ([(planted, 0, .manager, Row.setUnit, [128, 0, 0], free),
        (planted, 0, .manager, Row.setUnit, [127, 1, 65], free),
        (planted, 0, .manager, Row.setUnit, [0, 1, 11],
          fun s => decide ((s.node 11).place.map NodePlace.leg ≠ some 0)),
        (planted, 0, .manager, Row.setUnit, [127, 1, 11],
          fun s => decide ((s.unit 127).feeding = none ∧ (s.pathFrom (.node 11)).Nodup)),
        (planted, 0, .manager, Row.setUnit, [127, 1, 64], fun s => decide ((s.unit 127).feeding = none)),
        (planted, 0, .manager, Row.setUnit, [96, 1, 11],
          fun s => decide ((s.unit 96).feeding = some (.node 11))),
        (planted, 0, .manager, Row.setUnit, [96, 1, 10],
          fun s => decide ((s.unit 96).feeding = some (.node 11))),
        (planted, 0, .manager, Row.setUnit, [127, 0, 0], fun s => decide ((s.unit 127).feeding = none)),
        (taken, 0, .manager, Row.setUnit, [96, 0, 0],
          fun s => decide (Drop.unit 1536 = 96 ∧ (s.sub 1536).state ≠ .vacant)),
        (planted, 0, .manager, Row.setUnit, [96, 0, 0],
          fun s => (List.finRange 16).all fun k => decide ((s.sub (dropOf 96 k)).state = .vacant)),
        (busy, 0, .manager, Row.setUnit, [96, 0, 0],
          fun s => decide (UnitNo.onLeg 96 ∈ (s.leg 3).dueQueue ∧ (s.leg 3).dueQueue.length = 3 ∧
            (s.leg 3).promotion = true ∧ (s.leg 3).tx.map Transaction.unit = some (UnitNo.onLeg 96))),
        (dead, 0, .manager, Row.setUnit, [96, 1, 10], alarmed),
        (dead, 0, .manager, Row.setUnit, [96, 0, 0], alarmed)] :
        List Case),
      Serves c := all_serve _ (by decide +kernel)

/-- Whether a node at this place, or a node of its subtree, would stand below depth 8. -/
def tooLow (n : NodeNo) (f : Feed) (s : State) : Bool :=
  let depth := (s.pathFrom f).length + 1
  decide
    (8 < depth ∨
      ∃ m : NodeNo, (s.node m).place ≠ none ∧ n ∈ s.pathFrom (.node m) ∧
        8 < depth + (s.pathFrom (.node m)).idxOf n)

/-- NodesAreInstalledMovedAndUninstalled: node 64, leg 4 and parent 65 are none; a loop, a parent on another
leg, eight nodes above, seven above a node with one below it; a node installed, left,
moved with and without a change of leg, and uninstalled. -/
theorem witness_set_node :
    let deep := (List.finRange 8).foldl
      (fun s k => State.setNode s (Fin.castLE (by decide) k)
        { place := some { leg := 0, parent := if k = 0 then .root else .node (Fin.castLE (by decide) (k - 1)) }
          tally := Tally.zero }) planted
    let place := fun (n : NodeNo) (yes : Bool) (s : State) => decide ((s.node n).place.isSome = yes)
    ∀ c ∈
      ([(planted, 0, .manager, Row.setNode, [64, 0, 0, 0], free),
        (planted, 0, .manager, Row.setNode, [63, 1, 4, 64], free),
        (planted, 0, .manager, Row.setNode, [63, 1, 3, 65], free),
        (planted, 0, .manager, Row.setNode, [63, 1, 0, 10],
          fun s => decide ((s.node 10).place.map NodePlace.leg ≠ some 0)),
        (planted, 0, .manager, Row.setNode, [10, 1, 3, 11],
          fun s => decide (10 ∈ s.pathFrom (.node 11))),
        (deep, 0, .manager, Row.setNode, [63, 1, 0, 7],
          fun s => decide (8 < (s.pathFrom (.node 7)).length + 1)),
        (deep.setNode 11 { place := some { leg := 0, parent := .node 10 }, tally := Tally.zero }, 0, .manager,
          Row.setNode, [10, 1, 0, 6],
          fun s => decide ((s.pathFrom (.node 6)).length + 1 = 8 ∧ tooLow 10 (.node 6) s = true)),
        (deep, 0, .manager, Row.setNode, [63, 1, 0, 6],
          fun s => decide (tooLow 63 (.node 6) s = false ∧ (s.node 63).place = none)),
        (planted, 0, .manager, Row.setNode, [10, 1, 2, 64], place 10 true),
        (planted, 0, .manager, Row.setNode, [11, 1, 3, 10], place 11 true),
        (planted, 0, .manager, Row.setNode, [11, 1, 3, 64],
          fun s => decide (tooLow 11 .root s = false)),
        (planted, 0, .manager, Row.setNode, [63, 0, 0, 0], place 63 false),
        (planted, 0, .manager, Row.setNode, [11, 0, 0, 0],
          fun s => decide ((s.unit 96).feeding = some (.node 11))),
        (planted.setUnit 96 UnitEntry.uninstalled, 0, .manager, Row.setNode, [11, 0, 0, 0],
          fun s => (List.finRange 128).all fun u => decide ((s.unit u).feeding ≠ some (.node 11)))] :
        List Case),
      Serves c := all_serve _ (by decide +kernel)

/-- AlarmRaiseActsByTheRules and AlarmIsClearedAndAcknowledged: lists with 63 and 64 entries and no two of
one key; an entry cleared, an entry acknowledged of lower severity, and none of either. -/
theorem witness_alarms :
    let acked := fullList.map fun e => { e with state := AlarmState.activeUnacked }
    (fullList.map fun e => (e.kind, e.object)).Nodup ∧ fullList.length = 64 ∧
      (fullList.take 63).length < 64 ∧ (∀ e ∈ fullList, e.state ≠ .clearedUnacked) ∧
      (fullList[3]?.map fun e => (e.state, e.kind.rank)) = some (.activeAcked, 0) ∧
      0 < AlarmKind.legNoise.rank ∧
      (∀ e ∈ acked, ¬(e.state = .activeAcked ∧ e.kind.rank < AlarmKind.legNoise.rank)) ∧
      (∀ e ∈ fullList, ¬(e.kind = .legNoise ∧ e.object = 3)) ∧
      (acked.set 63 { AlarmEntry.atStart .unitDead 63 0 with state := .clearedUnacked }).length = 64 := by
  decide +kernel

/-- AlarmRaiseActsByTheRules: a full list of unacknowledged entries whose unlisted count is one below its limit,
and at it. -/
theorem witness_unlisted :
    let acked := fullList.map fun e => { e with state := AlarmState.activeUnacked }
    let s := fun n : Nat => { State.reset with alarms := ⟨acked, n, false, 9⟩ }
    64 ≤ (s 65534).alarms.entries.length ∧
      (∀ e ∈ (s 65534).alarms.entries, ¬(e.kind = .legNoise ∧ e.object = 3)) ∧
      (∀ e ∈ (s 65534).alarms.entries, e.state ≠ .clearedUnacked) ∧
      (∀ e ∈ (s 65534).alarms.entries, ¬(e.state = .activeAcked ∧ e.kind.rank < AlarmKind.legNoise.rank)) ∧
      ((s 65534).alarms.unlisted < 65535 ∧ ¬(s 65535).alarms.unlisted < 65535) ∧
      ((s 65534).raise .legNoise 3 0).alarms.unlisted = 65535 ∧
      ((s 65535).raise .legNoise 3 0).alarms.unlisted = 65535 ∧
      ((s 65535).raise .legNoise 3 0).alarms.change = 9 := by decide +kernel

/-- AlarmIsClearedAndAcknowledged, the requests: BILLING; kind 16 and object 64 of NODE_OUTAGE; an entry in
each state. -/
theorem witness_ack_alarm :
    let listed := fun x => { State.reset with
      alarms := { AlarmList.empty with
        entries := [{ AlarmEntry.atStart .nodeOutage 63 0 with state := x }] } }
    (∀ c ∈ ([(State.reset, 1, .billing, Row.ackAlarm, [6, 0, 63], free)] : List Case), Asks c) ∧
      ∀ c ∈
        ([(State.reset, 3, .craft, Row.ackAlarm, [16, 0, 0], free),
          (State.reset, 3, .craft, Row.ackAlarm, [6, 0, 64], free),
          (State.reset, 3, .craft, Row.ackAlarm, [6, 0, 63],
            fun s => s.alarms.entries.all fun e => decide (e.kind ≠ .nodeOutage)),
          (listed .activeAcked, 3, .craft, Row.ackAlarm, [6, 0, 63], free),
          (listed .activeUnacked, 3, .craft, Row.ackAlarm, [6, 0, 63], free),
          (listed .clearedUnacked, 3, .craft, Row.ackAlarm, [6, 0, 63], free)] : List Case),
        Serves c := ⟨all_ask _ (by decide +kernel), all_serve _ (by decide +kernel)⟩

/-- A running clock, lock 3 held by port 0, and drop 107 with this record in cycle 1 of which it may lag. -/
def accountOf (x : Subscriber) (written : BitVec 32) : State :=
  let s := dropOf8_6 none .alive ⟨some 1010000, .service, 0x09⟩
  locked
    (({ s with subscriberCount := 1 }.setTable
      { s.table with
        cycleNumber := 1, cycleStart := some 5
        close := { CloseContext.cold with stamp := some 1015000, closingStart := some 3 }
        journal := { Journal.cold with written := written } }).setSub
      107 x) 3 0 []

/-- A record ACTIVE in a cycle with a number of charges. -/
def charged (cycle : BitVec 16) (n : Nat) : Subscriber :=
  { Subscriber.cold with
    state := .active, account := some 1, tiers := some 0x09, cycle := cycle
    charges := List.replicate n { code := 0x17, amount := 0 } }

/-- SweepVisitBringsOneDropIntoLine: a lagging drop whose delivered set differs, ACTIVE and DISCONNECTED, with the
stamp and with its desired image changed by the activation; and one whose image the activation left. -/
theorem witness_sweep_lagging :
    let s := fun x =>
      let s := accountOf { charged 0 2 with state := x } 0
      s.setTable { s.table with activation := .sweeping 107 (Vector.replicate 8 0) }
    let lags := fun s : State =>
      s.deliveredNow 107 ≠ (s.sub 107).seg.tiers ∧ s.clock.minute = some 1020002 ∧
        (s.sub 107).cycle ≠ s.table.cycleNumber ∧ s.table.close.stamp = some 1015000 ∧
        CountersInRange (s.sub 107)
    let gone := (s .disconnected).setSub 107
      { (s .disconnected).sub 107 with seg := { start := some 5, kind := .service, tiers := 1 } }
    (lags (s .active) ∧ (s .active).table.activation = .sweeping 107 (Vector.replicate 8 0) ∧
        (s .active).desired 107 ≠ desiredImage (Vector.replicate 8 0) ((s .active).sub 107)) ∧
      (lags gone ∧ gone.desired 107 = desiredImage (Vector.replicate 8 0) (gone.sub 107)) := by decide +kernel

/-- SubscriberRecordsAreChanged: each refusal of PROVISION and its success; SET_TIERS of a lagging and of a
VACANT record; SUSPEND, RESUME and VACATE in and out of their states. -/
theorem witness_subscribers :
    let vacant := accountOf Subscriber.cold 0
    let active := accountOf (charged 0 4) 0
    let in_ := fun x => accountOf { charged 1 0 with state := x } 0
    let drop := beBytes 2 107
    ∀ c ∈
      ([(vacant, 0, .manager, Row.provision, drop ++ [0, 0, 0, 0, 0x0A, 1], free),
        (vacant, 0, .manager, Row.provision, drop ++ [0x99, 0x99, 0x99, 0x99, 0x99, 0], free),
        (active, 0, .manager, Row.provision, drop ++ [0, 0, 0, 0, 0, 1],
          fun s => decide ((s.sub 107).state ≠ .vacant)),
        (vacant, 0, .manager, Row.provision, beBytes 2 0 ++ [0, 0, 0, 0, 0, 1],
          fun s => decide ((s.unit 0).feeding = none)),
        (vacant, 0, .manager, Row.provision, drop ++ [0, 0, 0, 0, 0, 0xFF],
          fun s => decide ((s.sub 107).state = .vacant ∧ (s.unit 6).feeding ≠ none)),
        (active, 0, .manager, Row.setTiers, drop ++ [0], free),
        (vacant, 0, .manager, Row.setTiers, drop ++ [1], free),
        (active, 0, .manager, Row.setTiers, drop ++ [1],
          fun s => decide ((s.sub 107).cycle ≠ s.table.cycleNumber ∧ CountersInRange (s.sub 107) ∧
            s.table.close.stamp = some 1015000)),
        (in_ .active, 0, .manager, Row.setTiers, drop ++ [1],
          fun s => decide ((s.sub 107).cycle = s.table.cycleNumber ∧ s.clock.minute ≠ none)),
        (active, 0, .manager, Row.suspend, drop, free), (vacant, 0, .manager, Row.suspend, drop, free),
        (in_ .suspended, 0, .billing, Row.resume, drop, free), (active, 0, .billing, Row.resume, drop, free),
        (in_ .disconnected, 0, .manager, Row.vacate, drop, free),
        (active, 0, .manager, Row.vacate, drop, free)] : List Case),
      Serves c := all_serve _ (by decide +kernel)

/-- AccountsAreClosedChargedAndOrdersReissued: DISCONNECT without a clock, without a free slot, and with one;
ADD_CHARGE with a bad digit, four charges, three, and a lagging drop; REISSUE of unit 128, of a unit that is
not installed and of one that is. -/
theorem witness_accounts :
    let drop := beBytes 2 107
    let cents : List Byte := [0x00, 0x04, 0x99]
    ∀ c ∈
      ([(accountOf Subscriber.cold 0, 0, .manager, Row.disconnect, drop, free),
        ({ accountOf (charged 1 0) 0 with clock := Clock.notSet }, 0, .manager, Row.disconnect, drop, free),
        (accountOf (charged 1 0) 4096, 0, .manager, Row.disconnect, drop, fun s => decide (s.margin = 0)),
        (accountOf (charged 1 0) 4095, 0, .manager, Row.disconnect, drop, fun s => decide (s.margin = 1)),
        (accountOf (charged 0 0) 0, 0, .manager, Row.disconnect, drop,
          fun s => decide ((s.sub 107).cycle ≠ s.table.cycleNumber ∧ CountersInRange (s.sub 107) ∧
            s.table.close.stamp = some 1015000)),
        (accountOf (charged 1 0) 0, 0, .billing, Row.addCharge, drop ++ [0x17, 0, 0, 0x0A], free),
        (accountOf Subscriber.cold 0, 0, .billing, Row.addCharge, drop ++ [0x17] ++ cents, free),
        (accountOf (charged 1 4) 0, 0, .billing, Row.addCharge, drop ++ [0x17] ++ cents, free),
        (accountOf (charged 1 3) 0, 0, .billing, Row.addCharge, drop ++ [0x17] ++ cents, free),
        (accountOf (charged 0 4) 0, 0, .billing, Row.addCharge, drop ++ [0x17] ++ cents,
          fun s => decide ((s.sub 107).cycle ≠ s.table.cycleNumber)),
        (accountOf (charged 1 0) 0, 3, .craft, Row.reissue, [128], free),
        (accountOf (charged 1 0) 0, 3, .craft, Row.reissue, [127],
          fun s => decide ((s.unit 127).feeding = none)),
        (accountOf (charged 1 0) 0, 3, .craft, Row.reissue, [6],
          fun s => decide ((s.unit 6).feeding ≠ none))] : List Case),
      Serves c := all_serve _ (by decide +kernel)

/-- R5, R10, R15: a DISCONNECT turns the desired image off, so the hold of the unit is cleared, ORDER_FAILED ends, and the
unit, whose port is still on, waits in the order queue. -/
theorem test_disconnect_change_path :
    let s := accountOf (charged 1 0) 0
    let s := s.setUnit 6 { s.unit 6 with attempts := 3, held := true }
    let s := { s with alarms := { AlarmList.empty with entries := [AlarmEntry.atStart .orderFailed 6 0] } }
    after (.disconnect 0) (ask s 0 .manager Row.disconnect (beBytes 2 107))
      (fun t =>
        decide ((t.unit 6).held = false ∧ (t.unit 6).attempts = 0 ∧ (t.leg 0).orderQueue = [6]) &&
          t.alarms.entries.any fun e => decide (e.kind = .orderFailed ∧ e.state = .clearedUnacked)) = true := by
  decide +kernel

/-- CloseIsStartedAndWalked: START_CLOSE while walking, without a clock, at the cycle's start, with one slot
too few, and with just enough; and where the reservation begins and ends the space condition. -/
theorem witness_close :
    let s := accountOf (charged 1 0)
    let walking := (s 0).setClose { CloseContext.cold with walking := true }
    ∀ c ∈
      ([(walking, 1, .billing, Row.startClose, [], fun s => s.table.close.walking),
        ({ s 0 with clock := Clock.notSet }, 1, .billing, Row.startClose, [], free),
        ({ s 0 with clock := ⟨some 5, 0, 0, 0⟩ }, 1, .billing, Row.startClose, [],
          fun s => decide (s.table.cycleStart = some 5)),
        (s 4096, 1, .billing, Row.startClose, [], fun s => decide (s.margin < s.subscriberCount)),
        (s 4095, 1, .manager, Row.startClose, [], fun s => decide (s.subscriberCount = s.margin)),
        ((s 0).setJournal { (s 0).table.journal with threshold := 4096 }, 1, .manager, Row.startClose, [],
          fun s => decide (s.spaceLow = false ∧ s.margin = 4096 ∧ s.subscriberCount = 1)),
        ({ s 0 with spaceLow := true }, 1, .manager, Row.startClose, [],
          fun s => decide (s.spaceLow = true ∧ s.table.journal.threshold ≤ 4095 ∧ s.margin = 4096))] :
        List Case),
      Serves c := all_serve _ (by decide +kernel)

/-- R133, R146, R150: a START_CLOSE that brings the margin below the threshold raises JOURNAL_SPACE with the margin; a
CYCLE record leaves the margin, and ends a condition that does not hold. -/
theorem test_close_space :
    let s := accountOf (charged 1 0) 0
    let walk := (accountOf (charged 0 2) 0).setClose
      { CloseContext.cold with walking := true, position := 107, stamp := some 1015000, reserved := 1 }
    let space : AlarmEntry := AlarmEntry.atStart .journalSpace 0 0
    after (.startClose 1) (ask (s.setJournal { s.table.journal with threshold := 4096 }) 1 .billing Row.startClose [])
        (fun t =>
          t.spaceLow && t.alarms.entries.any fun e =>
            decide (e.kind = .journalSpace ∧ e.state = .activeUnacked ∧ e.info = 4095)) = true ∧
      after .walkVisit { walk with spaceLow := true, alarms := { AlarmList.empty with entries := [space] } }
        (fun t =>
          !t.spaceLow && decide (t.alarms.entries.map AlarmEntry.state = [.clearedUnacked])) = true := by
  decide +kernel

/-- CloseIsStartedAndWalked: the walk at a lagging subscriber, at one that is not lagging, at a lagging drop
that is VACANT, at the last drop, and from SHUTDOWN on; and where the record begins and ends the space condition. -/
theorem witness_walk :
    let s := fun x d => (accountOf x 0).setClose
      { CloseContext.cold with walking := true, position := d, stamp := some 1015000, requester := some 1 }
    ((s (charged 0 2) 107).table.close.walking = true ∧ (s (charged 0 2) 107).power = .normal ∧
        (s (charged 0 2) 107).inReset = false) ∧
      ((s (charged 0 2) 107).sub 107).cycle ≠ (s (charged 0 2) 107).table.cycleNumber ∧
      ((s (charged 1 2) 107).sub 107).cycle = (s (charged 1 2) 107).table.cycleNumber ∧
      (((s (charged 0 2) 0).sub 0).state = .vacant ∧
        ((s (charged 0 2) 0).sub 0).cycle ≠ (s (charged 0 2) 0).table.cycleNumber) ∧
      (s (charged 0 2) 2047).table.close.position.val = 2047 ∧
      CountersInRange ((s (charged 0 2) 107).sub 107) ∧
      { s (charged 0 2) 0 with power := .safe }.power ≠ .normal ∧
      (let owed := (s (charged 0 2) 107).setClose { (s (charged 0 2) 107).table.close with reserved := 1 }
       let low := owed.setJournal { owed.table.journal with threshold := 4096 }
       let margin := fun s : State =>
         4096 - (s.table.journal.written + 1 - s.table.journal.released).toNat - (s.table.close.reserved - 1)
       (low.spaceLow = false ∧ margin low < low.table.journal.threshold) ∧
         ({ owed with spaceLow := true }.spaceLow = true ∧ ¬margin owed < owed.table.journal.threshold)) := by
  decide +kernel

/-- The drops of a controller in which drop 107 alone has a record. -/
theorem accountOf_sub (x : Subscriber) (w : BitVec 32) (c : CloseContext) (d : Drop) :
    ((accountOf x w).setClose c).sub d = if d = 107 then x else Subscriber.cold := by
  show look (put (put (Vector.replicate 2048 Subscriber.cold) 107 _) 107 x) d = _
  by_cases h : d = 107
  · subst h; simp
  · simp [h, look_replicate]

/-- BillingTablesAndJournalAreKept, every step: drop 107 waits for its catch-up close, its slot the last that is left, and
the walk stands there. -/
theorem witness_journal :
    let s := (accountOf (charged 0 2) 4095).setClose
      { CloseContext.cold with walking := true, position := 107, stamp := some 1015000, reserved := 1 }
    RegisterSound s ∧ JournalSound s ∧ ∃ t, step { s with pending := [.walkVisit] } = .next t := by
  intro s
  have hs : ∀ d, s.sub d = if d = 107 then charged 0 2 else Subscriber.cold := accountOf_sub _ _ _
  have lag : ∀ d, Lagging s d ↔ d = 107 := fun d => by
    have hc : s.table.cycleNumber = 1 := rfl
    by_cases h : d = 107 <;> simp [Lagging, hs, hc, h, charged, Subscriber.cold]
  have one : ∀ p : Drop → Bool, (∀ d, p d = true ↔ d = 107) → (List.finRange 2048).countP p = 1 := fun p h => by
    have h : p = fun d => d == 107 := funext fun d => by rw [Bool.eq_iff_iff, h d]; exact beq_iff_eq.symm
    rw [h]
    exact List.count_eq_one_of_mem (List.nodup_finRange _) (List.mem_finRange (107 : Drop))
  refine ⟨⟨fun d => ?_, ?_⟩, ⟨by decide +kernel, ?_, fun _ d h => ?_, fun h => nomatch h⟩, _, rfl⟩
  · have hd : s.isDead (Drop.unit 107) = false := by decide +kernel
    by_cases h : d = 107
    · subst h
      simp [RecordSound, hs, hd, charged, Subscriber.cold]
    · simp [RecordSound, hs, h, Subscriber.cold]
  · have all : s.table.subs.toList = (List.finRange 2048).map s.sub :=
      List.ext_getElem (by simp) fun i h _ => by simp [State.sub, look]
    show 1 = s.table.subs.toList.countP _
    rw [all, List.countP_map]
    refine (one _ fun d => ?_).symm
    by_cases h : d = 107 <;> simp [hs, h, charged, Subscriber.cold, SubState.counts]
  · exact (one _ fun d => by simp [lag]).symm
  · rw [lag]
    exact fun e => absurd (e ▸ h) (lt_irrefl _)

/-- BillingTablesAndJournalAreKept: tier 8 and a bad digit; thresholds past their limits; the first and last
records held, and those just outside, across the wrap of the sequence number. -/
theorem witness_billing :
    let s := State.reset.setJournal { Journal.cold with written := 2, released := 0xFFFFFFFE }
    let rate := locked State.reset 1 1 []
    ∀ c ∈
      ([(rate, 1, .billing, Row.setRate, [8, 0, 0, 0, 0], free),
        (rate, 1, .billing, Row.setRate, [7, 0, 0, 0, 0x0A], free),
        (rate, 1, .billing, Row.setRate, [7, 0x99, 0x99, 0x99, 0x99], free),
        (s, 1, .billing, Row.setCreditThreshold, beBytes 2 1441, free),
        (s, 1, .billing, Row.setJournalThreshold, beBytes 2 4097, free),
        ({ s with spaceLow := true }, 1, .billing, Row.setJournalThreshold, beBytes 2 0,
          fun s => decide (¬s.margin < 0)),
        (s, 1, .billing, Row.setJournalThreshold, beBytes 2 4093,
          fun s => decide (s.margin < 4093 ∧ s.spaceLow = false)),
        (s.setJournal { s.table.journal with threshold := 4095 }, 1, .billing, Row.releaseJournal,
          beBytes 4 0, fun s => decide (4096 - 2 < s.table.journal.threshold ∧ s.spaceLow = false)),
        (s, 1, .billing, Row.readJournal, beBytes 4 0xFFFFFFFE, fun s => decide (s.table.journal.held = 4)),
        (s, 1, .billing, Row.readJournal, beBytes 4 1, free),
        (s, 1, .billing, Row.readJournal, beBytes 4 2, free),
        (s, 1, .billing, Row.readJournal, beBytes 4 0xFFFFFFFD, free),
        (s, 1, .billing, Row.releaseJournal, beBytes 4 0xFFFFFFFF, free),
        (s, 1, .billing, Row.releaseJournal, beBytes 4 2, free),
        (s, 1, .billing, Row.releaseJournal, beBytes 4 0xFFFFFFFE, free),
        (s, 1, .billing, Row.releaseJournal, beBytes 4 3, free)] : List Case),
      Serves c := all_serve _ (by decide +kernel)

/-- TierLinesAndTotalsAreExact: the largest rate and counts; a sum at the limit and one above it; the largest
number of ten digits. -/
theorem witness_tier_lines :
    isBcd 8 (0x99999999#32).toNat = true ∧ (tierLine 7 0x99999999 131071 131071).charge = 1310709987 ∧
      ((List.replicate 7 1310709987).sum + 824029090 + 1000000 ≤ 9999999999) ∧
      9999999999 < (List.replicate 8 1310709987).sum ∧ 9999999999 < 10 ^ 10 := by decide +kernel

/-- A controller after a finished SHUTDOWN at minute 1,020,002, with reset asserted. -/
def shutDown : State :=
  let s := dropOf8_6 none .alive ⟨some 1010000, .service, 0x09⟩
  State.sealTable
    { s with inReset := true, table := { s.table with record := .written true 1020002 } }

/-- R24, R52, R55, R106, R180: a warm start derives slot 12 ON_PRIMARY, sends its SELECT, and counts unit 6 at its root. -/
theorem test_warm_start_blocks :
    let s := shutDown.setTable { shutDown.table with active := lineupOf 12 slotTwelve }
    let t := s.warmStart (Vector.replicate 4 ⟨true, true⟩) (Vector.replicate 4 true)
    (t.slot 12).state = .onPrimary ∧ (t.slot 12).selected = some 5 ∧ (t.slot 11).state = .unassigned ∧
      t.matrix.queue = [] ∧ t.matrix.tx.map MatrixTx.frame = some [0x01, 12, 5, 0x08] ∧
      t.root 0 = { Tally.zero with units := 1 } := by decide +kernel

/-- R54, R72, R89, R153: a warm start restores a RUNNING leg with its tick and a STOPPING one as STOPPED, and leaves no
direct slot, no promotion mode, no line error and no space low. -/
theorem test_warm_start_legs :
    let s := { (shutDown.setRun 0 .running).setRun 1 .stopping with spaceLow := true }
    let s := s.setLeg 0
      { s.leg 0 with
        promotion := true, lineErrors := 5, lastLatency := some 3, direct := .submitted ⟨1, .poll, 3⟩ }
    let t := s.warmStart (Vector.replicate 4 ⟨true, true⟩) (Vector.replicate 4 true)
    t.run 0 = .running ∧ t.leg 0 = { LegState.fresh with tickInterval := some (s.legSettings 0).tick } ∧
      t.run 1 = .stopped ∧ t.leg 1 = LegState.fresh ∧ t.source 5 = SourceRuntime.fresh ∧ t.spaceLow = false := by
  decide +kernel

/-- PowerFailsAndTheControllerStarts: a warning with and without a clock, SHUTDOWN with the sealing under way,
SAFE, and a release after a finished SHUTDOWN, without a record, with the record lost, and with sector 6 lost. -/
theorem witness_power :
    let s := dropOf8_6 none .alive ⟨some 1010000, .service, 0x09⟩
    let shut := { s with power := .shutdown }
    (s.power = .normal ∧ s.clock.minute ≠ none ∧ State.reset.clock.minute = none) ∧
      (shut.power = .shutdown ∧ shut.inReset = false) ∧
      { shut with power := .safe }.power ≠ .shutdown ∧
      shutDown.inReset = true ∧ (shutDown.setRun 0 .running).run 0 = .running ∧
      (6 ∈ ([6] : List Sector) ∧ 0 ∈ (0 :: [] : List Sector)) ∧
      (State.reset.table.record.valid = false ∧ { State.reset with inReset := true }.inReset = true) := by
  decide +kernel

/-- PowerFailsAndTheControllerStarts: a warning with a lagging ACTIVE drop whose unit is DEAD, and with one that is
not lagging. -/
theorem witness_power_accounts :
    let dead := fun x => let s := accountOf x 0
      s.setUnit 6 { s.unit 6 with liveness := .dead, outageBegan := some 1014000 }
    (((dead (charged 0 2)).unit (Drop.unit 107)).liveness = .dead ∧
        ((dead (charged 0 2)).sub 107).cycle ≠ (dead (charged 0 2)).table.cycleNumber ∧
        CountersInRange ((dead (charged 0 2)).sub 107) ∧ ((dead (charged 0 2)).sub 107).state = .active ∧
        (dead (charged 0 2)).clock.minute = some 1020002 ∧
        (dead (charged 0 2)).table.close.stamp = some 1015000) ∧
      ((dead (charged 1 2)).sub 107).cycle = (dead (charged 1 2)).table.cycleNumber := by decide +kernel

/-- R179: after a SHUTDOWN that reset cuts short the CRC of one sector disagrees, whatever the free values are. -/
theorem cut_sectorFails (s : State) (hr : s.inReset = false) (hp : s.power = .shutdown) :
    (resetAsserted s).sectorFails [] ⟨Config.cutSector s.freeIndex % 512, Nat.mod_lt _ (by decide)⟩ = true := by
  simp [State.sectorFails, resetAsserted, hr, hp, cutCrcs, cutUnwritten, disagreeing_ne]

/-- PowerFailsAndTheControllerStarts: a SHUTDOWN that reset cuts short, as in `cut_sectorFails`; a spare sector at
State.reset, which no start makes fail. -/
theorem witness_cut_sealing :
    let s := { dropOf8_6 none .alive ⟨some 1010000, .service, 0x09⟩ with power := .shutdown }
    (s.inReset = false ∧ s.power = .shutdown) ∧ State.reset.sectorFails [] 362 = false := by decide +kernel

/-- PowerFailsAndTheControllerStarts: a record written VALID is under the CRC of its marker and minute. -/
theorem witness_record :
    shutDown.table.record.valid = true ∧
      shutDown.table.record.crc = crc16 (Config.markerBytes true ++ beBytes 4 shutDown.table.record.minute) :=
  ⟨rfl, rfl⟩

/-- PowerFailsAndTheControllerStarts: after a finished SHUTDOWN a sector fails exactly when it is lost, whatever
the free values are. -/
theorem witness_sectors (lost : List Sector) (k : Sector) :
    shutDown.sectorFails lost k = decide (k ∈ lost) := sealTable_sectorFails _ _ _

/-- ColdStartWritesColdValuesInPlace: a MANAGER port that holds all 19 locks, others waiting, with
transactions in flight; and one that does not hold lock 18, as no run leaves it. -/
theorem witness_cold_start :
    let s := withTx (accountOf (charged 1 2) 7) 0 (inFlight .poll 6 .duePoll .window [])
    ∀ c ∈
      ([({ s with locks := Vector.replicate 19 { holder := some 0, waiters := [3] } }, 0, .manager,
          Row.coldStart, [], fun s => decide ((s.leg 0).tx ≠ none ∧ s.matrix.tx ≠ none))] : List Case),
      Serves c ∧ (let t := (stateOf c).setLock 18 { holder := some 3, waiters := [] }
        Serving t 0 Row.coldStart 7 [] ∧ (t.lock 18).holder ≠ some 0) := by
  intro s c hc
  have h := all_serve _ (by decide +kernel) c hc
  obtain rfl := List.mem_singleton.mp hc
  exact ⟨h, ⟨⟨⟨h.1.running, h.1.normal, h.1.executing, h.1.taken⟩, h.1.role, h.1.lock, h.1.length⟩,
    by decide +kernel⟩⟩

end Sys2Proof.Tests
end

section
/-!
SUPPORT. What EDIT_SLOT and COPY_ACTIVE_TO_PENDING do to the pending line-up (R20, R21): how a body is read byte by
byte, what a request comes to that fails a check, the entry that an EDIT_SLOT body spells, and the statement itself.
-/

namespace Sys2Proof.Machine

/-! ## Arguments of one byte -/

/-- A one-byte field is the byte at its offset, 0 past the end of the body. -/
theorem field_one (b : List Byte) (i : Nat) : field b i 1 = (b.getD i 0).toNat := by
  have h : field b i 1 = beNat (b.drop i).head?.toList := by
    rw [field, List.take_one]
  rw [h, List.head?_drop, List.getD_eq_getElem?_getD]
  cases b[i]? <;> simp [beNat]

/-- A yes/no argument is yes exactly when its byte is not 00 hex (R167). -/
theorem flagArg_eq (b : List Byte) (i : Nat) : flagArg b i = decide (b.getD i 0 ≠ 0) := by
  rw [flagArg, field_one, decide_eq_decide, ne_eq, ne_eq, ← BitVec.toNat_inj]
  rfl

/-- The byte of a number below 256 reads back as the number. -/
theorem toNat_byte_of_lt {n : Nat} (h : n < 256) : (byte n).toNat = n := by
  rw [toNat_byte, Nat.mod_eq_of_lt h]

/-- An argument in range is the value it spells. -/
theorem toFin_val {n : Nat} (i : Fin n) : toFin n i.val = some i := by
  simp [toFin]

/-- An argument is in range exactly when it is below the bound. -/
theorem toFin_eq_some_iff {n x : Nat} {i : Fin n} : toFin n x = some i ↔ x = i.val := by
  unfold toFin
  split
  · simp [Fin.ext_iff]
  · rename_i h
    exact ⟨nofun, fun e => absurd (e ▸ i.isLt) h⟩

/-! ## Requests that fail a check -/

/-- A request whose check fails is answered with the result of that check, and nothing else changes (R165, R167). -/
theorem Asked.carryOut_refused {s : State} {p : Port} {row : Row} {tag : Byte} {body : List Byte} {r : Result}
    (h : Asked s p row tag body) (hc : knownCode row.code = true) (hb : body.length ≤ 255)
    (hr : requestCheck row p (s.heldWhenTaken p) body s = some r)
    (work : Port → List Byte → State → Answer) :
    outOfReset (carryOut row work p) s = s.answered p tag r [] := by
  have hf := checkFrame_requestFrame tag hc hb
  obtain ⟨_, ht, ho⟩ := h.taken
  replace ho := (isOldest_iff s _).mpr ho
  have hout : outOfReset (carryOut row work p) s = carryOut row work p s := by
    simp [outOfReset, h.running]
  rw [hout, carryOut_oldest row work ht hf rfl ho]
  simp [State.answerTo, Answer.replyTo, hr, placeReply_live]

/-- Step 3 of R167: in NORMAL a port whose role is not one of the row's is answered NOT_PERMITTED. -/
theorem requestCheck_role {row : Row} {p : Port} {held : List LockNo} {body : List Byte} {s : State}
    (hn : s.power = .normal) (hr : (s.port p).role ∉ row.roles) :
    requestCheck row p held body s = some .notPermitted := by
  simp [requestCheck, hn, hr]

/-- Step 4 of R167: a port of a role of the row's that did not hold the row's lock is answered LOCK_REQUIRED. -/
theorem requestCheck_lock {row : Row} {p : Port} {held : List LockNo} {body : List Byte} {s : State} {n : LockNo}
    (hn : s.power = .normal) (hr : (s.port p).role ∈ row.roles) (hl : row.need = .lock n) (hh : n ∉ held) :
    requestCheck row p held body s = some .lockRequired := by
  simp [requestCheck, hn, hr, hl, lockCheck, hh]

/-- A request of the MANAGER under lock 0 from a port of another role, or from one that did not hold lock 0 when it
was taken (R159). -/
theorem Asked.lineUp_checks {s : State} {p : Port} {row : Row} {tag : Byte} {body : List Byte}
    (h : Asked s p row tag body) (hlen : body.length = row.body) (hc : knownCode row.code = true)
    (hb : row.body ≤ 255) (hroles : row.roles = [.manager]) (hneed : row.need = .lock 0)
    (work : Port → List Byte → State → Answer) :
    ((s.port p).role ≠ .manager →
        outOfReset (carryOut row work p) s = s.answered p tag .notPermitted []) ∧
      ((s.port p).role = .manager → 0 ∉ s.heldWhenTaken p →
        outOfReset (carryOut row work p) s = s.answered p tag .lockRequired []) :=
  ⟨fun hr => h.carryOut_refused hc (hlen ▸ hb) (requestCheck_role h.normal (by simpa [hroles] using hr)) work,
    fun hr hl => h.carryOut_refused hc (hlen ▸ hb) (requestCheck_lock h.normal (by simp [hroles, hr]) hneed hl) work⟩

/-! ## The two requests as commands -/

/-- EDIT_SLOT is its row carried out. -/
theorem exec_editSlot (p : Port) (s : State) :
    exec (.editSlot p) s = .next (outOfReset (carryOut Row.editSlot editSlot p) s) := rfl

/-- COPY_ACTIVE_TO_PENDING is its row carried out. -/
theorem exec_copyActiveToPending (p : Port) (s : State) :
    exec (.copyActiveToPending p) s =
      .next (outOfReset (carryOut Row.copyActiveToPending copyActiveToPending p) s) := rfl

/-- An EDIT_SLOT being served is its work, then its reply. -/
theorem exec_editSlot_of_serving {s : State} {p : Port} {tag : Byte} {body : List Byte}
    (h : Serving s p Row.editSlot tag body) :
    exec (.editSlot p) s =
      .next
        ((editSlot p body s).state.answered p tag (editSlot p body s).result (editSlot p body s).body) := by
  rw [exec_editSlot, h.carryOut (by decide) (by decide)]

/-- A COPY_ACTIVE_TO_PENDING being served makes the whole pending line-up the active one (R21). -/
theorem exec_copyActiveToPending_of_serving {s : State} {p : Port} {tag : Byte} {body : List Byte}
    (h : Serving s p Row.copyActiveToPending tag body) :
    exec (.copyActiveToPending p) s =
      .next
        ({ s with table := { s.table with pendingLineup := s.table.active } }.answered p tag .ok []) := by
  rw [exec_copyActiveToPending, h.carryOut (by decide) (by decide)]
  rfl

/-! ## The entry that an EDIT_SLOT body spells -/

/-- A fallback byte as an EDIT_SLOT body spells it: FF hex absent, else the source (R20, R170). -/
def fallbackByte : Option Source → Byte
  | some k => byte k.val
  | none => 0xFF

/-- Every fallback reads back from its byte. -/
theorem fallbackArg_fallbackByte (f : Option Source) : fallbackArg (fallbackByte f).toNat = some f := by
  cases f with
  | none => rfl
  | some k =>
    have hk : (fallbackByte (some k)).toNat = k.val := toNat_byte_of_lt (by omega)
    have hne : k.val ≠ 0xFF := by omega
    simp [fallbackArg, hk, hne, toFin_val]

/-- A fallback argument in range is FF hex, for none, or names its source. -/
theorem fallbackArg_eq_some {n : Nat} {f : Option Source} (h : fallbackArg n = some f) :
    (n = 0xFF ∧ f = none) ∨ ∃ k : Source, n = k.val ∧ f = some k := by
  unfold fallbackArg at h
  split at h
  · exact .inl ⟨‹_›, (Option.some.inj h).symm⟩
  · obtain ⟨k, hk, rfl⟩ := Option.map_eq_some_iff.mp h
    exact .inr ⟨k, toFin_eq_some_iff.mp hk, rfl⟩

section
variable {slot assigned primary fallback tier revert muted : Byte}

/-- A body with assigned 00 hex spells the empty entry, whatever its other arguments are (R20). -/
theorem entryArg_unassigned (h : assigned = 0) :
    entryArg [slot, assigned, primary, fallback, tier, revert, muted] = some none := by
  simp [entryArg, flagArg_eq, h]

/-- A body that assigns the slot is refused for a source, a fallback or a tier out of range, and for a fallback that is
the primary source (R20). -/
theorem entryArg_refused (ha : assigned ≠ 0)
    (h : 63 < primary.toNat ∨ (fallback ≠ 0xFF ∧ 63 < fallback.toNat) ∨ fallback = primary ∨ 7 < tier.toNat) :
    entryArg [slot, assigned, primary, fallback, tier, revert, muted] = none := by
  have hassigned : flagArg [slot, assigned, primary, fallback, tier, revert, muted] 1 = true := by
    rw [flagArg_eq]
    exact decide_eq_true ha
  rw [entryArg, if_pos hassigned]
  simp only [field_one]
  split
  · rename_i k f t hk hf ht
    have hprimary : primary.toNat = k.val := toFin_eq_some_iff.mp hk
    have htier : tier.toNat = t.val := toFin_eq_some_iff.mp ht
    have hfallback : (fallback.toNat = 0xFF ∧ f = none) ∨ ∃ j : Source, fallback.toNat = j.val ∧ f = some j :=
      fallbackArg_eq_some hf
    have hsame : f = some k := by
      rcases hfallback with ⟨habsent, -⟩ | ⟨j, hj, rfl⟩
      · rcases h with h | ⟨h, -⟩ | rfl | h
        · omega
        · exact absurd (BitVec.eq_of_toNat_eq habsent) h
        · omega
        · omega
      · rcases h with h | ⟨-, h⟩ | rfl | h
        · omega
        · omega
        · exact congrArg some (Fin.ext (hj.symm.trans hprimary))
        · omega
    exact if_pos hsame
  · rfl

/-- A body that spells a program whose fallback is not its primary source is that entry (R20). -/
theorem entryArg_program {g : Program} (ha : assigned ≠ 0) (hp : primary = byte g.primary.val)
    (hf : fallback = fallbackByte g.fallback) (hne : g.fallback ≠ some g.primary) (ht : tier = byte g.tier.val)
    (hr : g.autoRevert = decide (revert ≠ 0)) (hm : g.muted = decide (muted ≠ 0)) :
    entryArg [slot, assigned, primary, fallback, tier, revert, muted] = some (some g) := by
  have hassigned : flagArg [slot, assigned, primary, fallback, tier, revert, muted] 1 = true := by
    rw [flagArg_eq]
    exact decide_eq_true ha
  have hprimary : toFin 64 primary.toNat = some g.primary := by
    rw [hp, toNat_byte_of_lt (by omega), toFin_val]
  have hfallback : fallbackArg fallback.toNat = some g.fallback := by
    rw [hf, fallbackArg_fallbackByte]
  have htier : toFin 8 tier.toNat = some g.tier := by
    rw [ht, toNat_byte_of_lt (by omega), toFin_val]
  have hrevert : flagArg [slot, assigned, primary, fallback, tier, revert, muted] 5 = g.autoRevert := by
    rw [flagArg_eq, hr]
    rfl
  have hmuted : flagArg [slot, assigned, primary, fallback, tier, revert, muted] 6 = g.muted := by
    rw [flagArg_eq, hm]
    rfl
  simp [entryArg, hassigned, field_one, hprimary, hfallback, htier, hne, hrevert, hmuted]

end

/-! ## EDIT_SLOT -/

/-- A body whose slot or entry is out of range is refused (R20). -/
theorem editSlot_refused {b : List Byte} (h : 47 < field b 0 1 ∨ entryArg b = none) (p : Port) (s : State) :
    editSlot p b s = refuse .badArgument s := by
  unfold editSlot
  split
  · rename_i i e hi he
    have hi := toFin_eq_some_iff.mp hi
    rcases h with h | h
    · omega
    · rw [h] at he
      nomatch he
  · rfl

/-- A body that spells a slot and an entry puts the entry into the pending line-up (R20). -/
theorem editSlot_entry {b : List Byte} {i : Slot} {e : SlotEntry} (hi : field b 0 1 = i.val)
    (he : entryArg b = some e) (p : Port) (s : State) :
    editSlot p b s =
      answer .ok [] (s.setTable { s.table with pendingLineup := put s.table.pendingLineup i e }) := by
  rw [editSlot, hi, toFin_val, he]

/-- An EDIT_SLOT being served with an argument out of range is answered BAD_ARGUMENT (R20). -/
theorem exec_editSlot_refused {s : State} {p : Port} {tag : Byte} {body : List Byte}
    (h : Serving s p Row.editSlot tag body) (hb : 47 < field body 0 1 ∨ entryArg body = none) :
    exec (.editSlot p) s = .next (s.answered p tag .badArgument []) := by
  rw [exec_editSlot_of_serving h, editSlot_refused hb]
  rfl

/-- An EDIT_SLOT being served that spells a slot and an entry replaces that entry of the pending line-up (R20). -/
theorem exec_editSlot_entry {s : State} {p : Port} {tag : Byte} {body : List Byte} {i : Slot} {e : SlotEntry}
    (h : Serving s p Row.editSlot tag body) (hi : field body 0 1 = i.val) (he : entryArg body = some e) :
    exec (.editSlot p) s =
      .next
        ({ s with table := { s.table with pendingLineup := put s.table.pendingLineup i e } }.answered p tag .ok
          []) := by
  rw [exec_editSlot_of_serving h, editSlot_entry hi he]
  rfl

/-- Settles O30: the checks before the arguments by `Asked.lineUp_checks`, the copy by its own equation, and EDIT_SLOT
by the entry that its body spells. -/
theorem pendingLineUpIsEdited : Obligations.PendingLineUpIsEdited := by
  unfold Obligations.PendingLineUpIsEdited
  refine ⟨fun p tag s e he body hlen ha => ?checks,
    fun p tag s h => exec_copyActiveToPending_of_serving h,
    fun p tag slot assigned primary fallback tier revert muted s h => ⟨fun hbad => ?refused, fun i hslot => ?entry⟩⟩
  case checks =>
    rcases List.mem_pair.mp he with rfl | rfl
    · have h := Asked.lineUp_checks (row := Row.editSlot) ha hlen (by decide) (by decide) rfl rfl editSlot
      simpa only [exec_editSlot, Host.Outcome.next.injEq] using h
    · have h :=
        Asked.lineUp_checks (row := Row.copyActiveToPending) ha hlen (by decide) (by decide) rfl rfl
          copyActiveToPending
      simpa only [exec_copyActiveToPending, Host.Outcome.next.injEq] using h
  case refused =>
    refine exec_editSlot_refused h (hbad.imp (fun hs => ?_) fun ⟨hassigned, hargs⟩ => ?_)
    · simpa [field_one] using hs
    · exact entryArg_refused hassigned hargs
  case entry =>
    have hi : field [slot, assigned, primary, fallback, tier, revert, muted] 0 1 = i.val := by
      rw [field_one, hslot]
      exact toNat_byte_of_lt (by omega)
    refine ⟨fun hassigned => exec_editSlot_entry h hi (entryArg_unassigned hassigned),
      fun g hassigned hprimary hfallback hne htier hrevert hmuted => ?_⟩
    have hf : fallback = fallbackByte g.fallback := by
      rw [hfallback]
      cases g.fallback <;> rfl
    exact exec_editSlot_entry h hi (entryArg_program hassigned hprimary hf hne htier hrevert hmuted)

end Sys2Proof.Machine
end

section
/-!
SUPPORT. What a raise does to the Alarm List (R110 to R112) and how a change of the list is told (R115): how a new list
is put in force, what a raise makes of a list by the way its key and its room stand, which entry a full list gives up,
and the statement itself.
-/

namespace Sys2Proof.Machine

/-! ## Putting a list in force -/

/-- ALARM attention is the lowest bit, and a DETACHED port gets none (R166, R170). -/
theorem PortState.raise_alarm (x : PortState) :
    x.raise .alarm = if x.phase = .detached then x else { x with flags := x.flags ||| 0x01 } := by
  by_cases h : x.phase = .detached <;> simp [PortState.raise, PortState.attached, Flag.bit, h]

/-- A change of the Alarm List on the way from `s` to `t`: the change number is one higher and ALARM attention is set
on every attached port (R115). -/
abbrev AlarmChangeTold (s t : State) : Prop :=
  t.alarms.change = s.alarms.change + 1 ∧
    ∀ q : Port,
      t.port q =
        if (s.port q).phase = .detached then s.port q
        else { s.port q with flags := (s.port q).flags ||| 0x01 }

/-- A list that differs in an entry or in the unlisted count counts as changed. -/
theorem AlarmList.changed_iff (a b : AlarmList) :
    a.changed b = true ↔ a.entries ≠ b.entries ∨ a.unlisted ≠ b.unlisted := decide_eq_true_iff

section
variable (s : State) (a : AlarmList)

@[simp] theorem State.withAlarms_entries : (s.withAlarms a).alarms.entries = a.entries := by
  unfold State.withAlarms
  split <;> rfl

@[simp] theorem State.withAlarms_unlisted : (s.withAlarms a).alarms.unlisted = a.unlisted := by
  unfold State.withAlarms
  split <;> rfl

@[simp] theorem State.withAlarms_overflow : (s.withAlarms a).alarms.overflow = a.overflow := by
  unfold State.withAlarms
  split <;> rfl

/-- The list in force put in force again changes nothing. -/
@[simp] theorem State.withAlarms_self : s.withAlarms s.alarms = s := by
  simp [State.withAlarms, AlarmList.changed, State.setAlarms]

variable {s a}

/-- A changed list put in force is told to the stations (R115). -/
theorem State.withAlarms_told (hchange : a.change = s.alarms.change) (h : s.alarms.changed a = true) :
    AlarmChangeTold s (s.withAlarms a) := by
  rw [State.withAlarms, if_pos h]
  refine ⟨congrArg (· + 1) hchange, fun q => ?_⟩
  rw [port_flagAll, if_pos rfl, State.port_setAlarms, PortState.raise_alarm]

/-- Other entries put in force are told, and the unlisted count and the overflow flag stay. -/
theorem State.withAlarms_newEntries {es : List AlarmEntry} (h : s.alarms.entries ≠ es) :
    let t := s.withAlarms { s.alarms with entries := es }
    t.alarms.entries = es ∧ t.alarms.unlisted = s.alarms.unlisted ∧
      t.alarms.overflow = s.alarms.overflow ∧ AlarmChangeTold s t :=
  ⟨by simp, by simp, by simp, State.withAlarms_told rfl ((AlarmList.changed_iff ..).mpr (.inl h))⟩

end

/-! ## The entry with the key -/

/-- An entry has a key exactly when it names its kind and its object. -/
theorem AlarmEntry.hasKey_iff {k : AlarmKind} {o : Nat} {e : AlarmEntry} :
    e.hasKey k o = true ↔ e.kind = k ∧ e.object = o := decide_eq_true_iff

/-- The search for a key finds nothing where no entry names its kind and its object. -/
theorem any_hasKey_eq_false {k : AlarmKind} {o : Nat} {es : List AlarmEntry}
    (h : ∀ e ∈ es, ¬(e.kind = k ∧ e.object = o)) : es.any (AlarmEntry.hasKey k o) = false :=
  List.any_eq_false.mpr fun e he => AlarmEntry.hasKey_iff.not.mpr (h e he)

/-- Where no two entries share a key, a change of every entry with the key of entry `i` is a change of entry `i`. -/
theorem map_hasKey_eq_set {k : AlarmKind} {o i : Nat} {e : AlarmEntry} {es : List AlarmEntry}
    (hnodup : (es.map fun e => (e.kind, e.object)).Nodup) (hi : es[i]? = some e) (hkey : e.hasKey k o = true)
    (g : AlarmEntry → AlarmEntry) :
    (es.map fun e => if e.hasKey k o then g e else e) = es.set i (g e) := by
  obtain ⟨hlt, rfl⟩ := List.getElem?_eq_some_iff.mp hi
  refine List.ext_getElem (by simp) fun j hj _ => ?_
  replace hj : j < es.length := by simpa using hj
  rw [List.getElem_map, List.getElem_set]
  by_cases hij : i = j
  · subst hij
    simp [hkey]
  · have hother : ¬es[j].hasKey k o = true := fun hsame => by
      obtain ⟨hkind, hobject⟩ := AlarmEntry.hasKey_iff.mp hkey
      obtain ⟨hkind', hobject'⟩ := AlarmEntry.hasKey_iff.mp hsame
      refine hij ((List.getElem?_inj (by simpa using hlt) hnodup).mp ?_)
      simp [hlt, hj, hkind, hobject, hkind', hobject']
    rw [if_neg hother, if_neg hij]

/-- A list that ends in an entry with a key no entry of `es` has is not `es`. -/
theorem ne_append_new {k : AlarmKind} {o : Nat} {es : List AlarmEntry}
    (h : ∀ e ∈ es, ¬(e.kind = k ∧ e.object = o)) (front : List AlarmEntry) (stamp : Option Nat)
    (info : BitVec 16) : es ≠ front ++ [AlarmEntry.new stamp k o info] := by
  rintro rfl
  exact h _ (List.mem_append_right _ (List.mem_singleton_self _)) ⟨rfl, rfl⟩

/-! ## The entry that a full list gives up -/

/-- The first place where a test holds is the one that a search from the head finds. -/
theorem findIdx?_eq_some_of_first {α : Type} {p : α → Bool} {xs : List α} {i : Nat} {x : α} (hi : xs[i]? = some x)
    (hx : p x = true) (hfirst : ∀ y ∈ xs.take i, ¬p y = true) : xs.findIdx? p = some i := by
  obtain ⟨hlt, rfl⟩ := List.getElem?_eq_some_iff.mp hi
  refine List.findIdx?_eq_some_iff_getElem.mpr ⟨hlt, hx, fun j hj => hfirst _ ?_⟩
  exact List.mem_take_iff_getElem.mpr ⟨j, by omega, rfl⟩

section
variable {k : AlarmKind} {es : List AlarmEntry} {i : Nat} {e : AlarmEntry}

/-- The oldest cleared entry goes first (R111). -/
theorem evicted_eq_cleared (hi : es[i]? = some e) (he : e.state = .clearedUnacked)
    (hfirst : ∀ f ∈ es.take i, f.state ≠ .clearedUnacked) : evicted k es = some i := by
  rw [evicted, findIdx?_eq_some_of_first hi (by simpa using he) (by simpa using hfirst)]

/-- With no cleared entry, what a full list gives up is the oldest acknowledged entry of lower severity (R111). -/
theorem evicted_of_none_cleared (hnone : ∀ f ∈ es, f.state ≠ .clearedUnacked) :
    evicted k es = es.findIdx? fun e => decide (e.state = .activeAcked ∧ e.kind.rank < k.rank) := by
  rw [evicted, List.findIdx?_eq_none_iff.mpr (by simpa using hnone)]

/-- With no cleared entry, the oldest acknowledged entry of lower severity goes (R111). -/
theorem evicted_eq_acked (hnone : ∀ f ∈ es, f.state ≠ .clearedUnacked) (hi : es[i]? = some e)
    (he : e.state = .activeAcked) (hrank : e.kind.rank < k.rank)
    (hfirst : ∀ f ∈ es.take i, ¬(f.state = .activeAcked ∧ f.kind.rank < k.rank)) : evicted k es = some i := by
  rw [evicted_of_none_cleared hnone]
  exact findIdx?_eq_some_of_first hi (decide_eq_true ⟨he, hrank⟩) fun f hf => decide_eq_true_iff.not.mpr (hfirst f hf)

/-- With neither, no entry goes (R111). -/
theorem evicted_eq_none (hnone : ∀ f ∈ es, f.state ≠ .clearedUnacked)
    (hacked : ∀ f ∈ es, ¬(f.state = .activeAcked ∧ f.kind.rank < k.rank)) : evicted k es = none := by
  rw [evicted_of_none_cleared hnone]
  exact List.findIdx?_eq_none_iff.mpr fun f hf => decide_eq_false (hacked f hf)

end

/-! ## A raise, by the state of the list -/

section
variable {k : AlarmKind} {o : Nat} {s : State} {i : Nat}

/-- A raise for a key that has an entry acts on that entry in place (R110). -/
theorem State.raise_of_listed {e : AlarmEntry} (hnodup : (s.alarms.entries.map fun e => (e.kind, e.object)).Nodup)
    (hi : s.alarms.entries[i]? = some e) (hkind : e.kind = k) (hobject : e.object = o) (info : BitVec 16) :
    s.raise k o info =
      s.withAlarms { s.alarms with entries := s.alarms.entries.set i (e.reraise s.now info) } := by
  have hkey : e.hasKey k o = true := AlarmEntry.hasKey_iff.mpr ⟨hkind, hobject⟩
  have hany : s.alarms.entries.any (AlarmEntry.hasKey k o) = true :=
    List.any_eq_true.mpr ⟨e, List.mem_of_getElem? hi, hkey⟩
  rw [State.raise, AlarmList.raise, if_pos hany, map_hasKey_eq_set hnodup hi hkey]

variable (hkey : ∀ e ∈ s.alarms.entries, ¬(e.kind = k ∧ e.object = o)) (info : BitVec 16)
include hkey

/-- A raise for a key that has no entry is appended while the list has room (R111). -/
theorem State.raise_of_room (hroom : s.alarms.entries.length < 64) :
    s.raise k o info =
      s.withAlarms { s.alarms with entries := s.alarms.entries ++ [AlarmEntry.new s.now k o info] } := by
  simp [State.raise, AlarmList.raise, any_hasKey_eq_false hkey, alarmRoom, hroom]

/-- A raise for a key that has no entry takes the room of the entry that a full list gives up (R111). -/
theorem State.raise_of_evicted (hfull : 64 ≤ s.alarms.entries.length)
    (hi : evicted k s.alarms.entries = some i) :
    s.raise k o info =
      s.withAlarms
        { s.alarms with entries := s.alarms.entries.eraseIdx i ++ [AlarmEntry.new s.now k o info] } := by
  simp [State.raise, AlarmList.raise, any_hasKey_eq_false hkey, alarmRoom, Nat.not_lt.mpr hfull, hi]

/-- A raise that a full list gives up no entry for is counted as unlisted (R112). -/
theorem State.raise_of_no_room (hfull : 64 ≤ s.alarms.entries.length)
    (hnone : evicted k s.alarms.entries = none) :
    s.raise k o info =
      s.withAlarms { s.alarms with unlisted := min 65535 (s.alarms.unlisted + 1), overflow := true } := by
  simp [State.raise, AlarmList.raise, any_hasKey_eq_false hkey, alarmRoom, Nat.not_lt.mpr hfull, hnone]

end

/-! ## The effect of a raise -/

section
variable {k : AlarmKind} {o : Nat} {s : State} {i : Nat}

/-- A raise on a listed key replaces its entry, keeps the rest of the list, and is told exactly when the entry differs
(R110, R115). -/
theorem raise_listed_effect {e : AlarmEntry} (hnodup : (s.alarms.entries.map fun e => (e.kind, e.object)).Nodup)
    (hi : s.alarms.entries[i]? = some e) (hkind : e.kind = k) (hobject : e.object = o) (info : BitVec 16) :
    let t := s.raise k o info
    let f := e.reraise s.now info
    t.alarms.entries = s.alarms.entries.set i f ∧ t.alarms.unlisted = s.alarms.unlisted ∧
      t.alarms.overflow = s.alarms.overflow ∧ (f = e → t = s) ∧ (f ≠ e → AlarmChangeTold s t) := by
  intro t f
  have ht : t = s.withAlarms { s.alarms with entries := s.alarms.entries.set i f } :=
    State.raise_of_listed hnodup hi hkind hobject info
  obtain ⟨hlt, hget⟩ := List.getElem?_eq_some_iff.mp hi
  rw [ht]
  refine ⟨by simp, by simp, by simp, fun hsame => ?_, fun hdiff => ?_⟩
  · have hset : s.alarms.entries.set i f = s.alarms.entries := by
      rw [hsame, ← hget, List.set_getElem_self]
    rw [hset]
    exact s.withAlarms_self
  · have hset : s.alarms.entries ≠ s.alarms.entries.set i f := fun heq => hdiff <| by
      have hf : (s.alarms.entries.set i f)[i]? = some f := List.getElem?_set_self hlt
      rw [← heq, hi] at hf
      exact (Option.some.inj hf).symm
    obtain ⟨_, _, _, htold⟩ := State.withAlarms_newEntries hset
    exact htold

variable (hkey : ∀ e ∈ s.alarms.entries, ¬(e.kind = k ∧ e.object = o)) (info : BitVec 16)
include hkey

/-- A raise with room to append makes its entry at the tail and is told (R111, R115). -/
theorem raise_room_effect (hroom : s.alarms.entries.length < 64) :
    let t := s.raise k o info
    t.alarms.entries = s.alarms.entries ++ [AlarmEntry.new s.now k o info] ∧
      t.alarms.unlisted = s.alarms.unlisted ∧ t.alarms.overflow = s.alarms.overflow ∧ AlarmChangeTold s t := by
  rw [State.raise_of_room hkey info hroom]
  exact State.withAlarms_newEntries (ne_append_new hkey _ _ _)

/-- A raise that a full list gives up an entry for makes its entry at the tail, and the two are one change (R111,
R115). -/
theorem raise_evicted_effect (hfull : 64 ≤ s.alarms.entries.length) (hi : evicted k s.alarms.entries = some i) :
    let t := s.raise k o info
    t.alarms.entries = s.alarms.entries.eraseIdx i ++ [AlarmEntry.new s.now k o info] ∧
      t.alarms.unlisted = s.alarms.unlisted ∧ t.alarms.overflow = s.alarms.overflow ∧ AlarmChangeTold s t := by
  rw [State.raise_of_evicted hkey info hfull hi]
  exact State.withAlarms_newEntries (ne_append_new hkey _ _ _)

/-- A raise that finds no room leaves the entries, raises the unlisted count up to its limit, sets the overflow flag,
and is told when the count rises (R112, R115). -/
theorem raise_no_room_effect (hfull : 64 ≤ s.alarms.entries.length) (hnone : evicted k s.alarms.entries = none) :
    let t := s.raise k o info
    t.alarms.entries = s.alarms.entries ∧ t.alarms.unlisted = min 65535 (s.alarms.unlisted + 1) ∧
      t.alarms.overflow = true ∧ (s.alarms.unlisted < 65535 → AlarmChangeTold s t) := by
  rw [State.raise_of_no_room hkey info hfull hnone]
  refine ⟨by simp, by simp, by simp, fun hbelow => State.withAlarms_told rfl ?_⟩
  have hrises : s.alarms.unlisted ≠ min 65535 (s.alarms.unlisted + 1) := by omega
  exact (AlarmList.changed_iff ..).mpr (.inr hrises)

end

/-- Settles O51: a listed key by `raise_listed_effect`, one with no entry by the room of the list and by the entry that
a full list gives up. -/
theorem alarmRaiseActsByTheRules : Obligations.AlarmRaiseActsByTheRules := by
  unfold Obligations.AlarmRaiseActsByTheRules
  intro k o info s a es t told new
  refine ⟨fun i e hnodup hi hkind hobject => ?listed, fun hkey =>
    ⟨raise_room_effect hkey info, fun hfull => ⟨fun i e hi he hfirst => ?cleared, fun hnone =>
      ⟨fun i e hi he hrank hfirst => ?acked, fun hacked => ?unlisted⟩⟩⟩⟩
  case listed =>
    intro f
    have hf : f = e.reraise s.now info := by
      simp only [f, AlarmEntry.reraise]
      cases e.state <;> rfl
    rw [hf]
    exact raise_listed_effect hnodup hi hkind hobject info
  case cleared => exact raise_evicted_effect hkey info hfull (evicted_eq_cleared hi he hfirst)
  case acked => exact raise_evicted_effect hkey info hfull (evicted_eq_acked hnone hi he hrank hfirst)
  case unlisted => exact raise_no_room_effect hkey info hfull (evicted_eq_none hnone hacked)

end Sys2Proof.Machine
end

section
/-!
SUPPORT. The band-group composition (R23), the desired image (R14) and the delivered tier set (R118), member by member:
when a number is in a set that the operations on sets build, which slots make up a band group and its composition, what
each image and each delivered set holds, and the statement itself.
-/

namespace Sys2Proof.Machine

/-! ## Members of sets -/

/-- The empty set has no member. -/
@[simp] theorem Set8.has_zero (t : Fin 8) : Set8.has 0#8 t = false := by
  simp [Set8.has]

/-- A union has the members of both sets. -/
@[simp] theorem Set8.has_or (x y : Set8) (t : Fin 8) : Set8.has (x ||| y) t = (Set8.has x t || Set8.has y t) :=
  BitVec.getLsbD_or

/-- The set with the one bit of `i` has `i` as its only member. -/
@[simp] theorem Set8.has_single (i t : Fin 8) : Set8.has (1#8 <<< i.val) t = decide (i = t) := by
  revert i t
  decide

/-- Two sets with the same members are the same set. -/
theorem Set8.ext {x y : Set8} (h : ∀ t : Fin 8, Set8.has x t = Set8.has y t) : x = y :=
  BitVec.eq_of_getLsbD_eq fun i hi => h ⟨i, hi⟩

/-- A set is not empty exactly when it has a member. -/
theorem Set8.ne_zero_iff (x : Set8) : x ≠ 0 ↔ ∃ t : Fin 8, Set8.has x t = true := by
  constructor
  · intro hne
    by_contra hnone
    have hempty : ∀ t : Fin 8, Set8.has x t = false := by simpa using hnone
    exact hne (Set8.ext fun t => by simp [hempty t])
  · rintro ⟨t, ht⟩ rfl
    simp at ht

/-- The members of a set that are no members of another. -/
theorem Set8.has_diff (x y : Set8) (t : Fin 8) : Set8.has (x &&& ~~~y) t = (Set8.has x t && !Set8.has y t) := by
  simp [Set8.has]

/-- One set is within another exactly when each of its members is a member there. -/
theorem Set8.within_iff (x y : Set8) :
    Set8.within x y = true ↔ ∀ t : Fin 8, Set8.has x t = true → Set8.has y t = true := by
  have hempty : Set8.within x y = true ↔ ¬∃ t : Fin 8, Set8.has (x &&& ~~~y) t = true := by
    rw [← Set8.ne_zero_iff, not_not, Set8.within, beq_iff_eq]
  simp [hempty, Set8.has_diff]

/-- Collecting from a list adds its numbers for which `f` holds. -/
theorem Set8.has_foldr_collect (f : Fin 8 → Bool) (l : List (Fin 8)) (x : Set8) (t : Fin 8) :
    Set8.has (l.foldr (fun i acc => if f i then acc ||| (1#8 <<< i.val) else acc) x) t = true ↔
      Set8.has x t = true ∨ (t ∈ l ∧ f t = true) := by
  induction l with
  | nil => simp
  | cons i l ih =>
    rw [List.foldr_cons, List.mem_cons]
    cases hf : f i with
    | false =>
      have hne : f t = true → t ≠ i := by
        rintro ht rfl
        simp [hf] at ht
      simp only [Bool.false_eq_true, if_false, ih]
      tauto
    | true =>
      have hself : t = i → f t = true := fun h => h ▸ hf
      simp only [if_true, Set8.has_or, Set8.has_single, Bool.or_eq_true, ih, decide_eq_true_iff, eq_comm (a := i)]
      tauto

/-- A collected set has the numbers for which `f` holds. -/
@[simp] theorem Set8.has_collect (f : Fin 8 → Bool) (t : Fin 8) : Set8.has (Set8.collect f) t = f t :=
  Bool.eq_iff_iff.mpr ((Set8.has_foldr_collect f _ 0 t).trans (by simp))

/-- A union over a list has what it starts from and the members of each set joined to it. -/
theorem Set8.has_foldl_or {α : Type} (f : α → Set8) (l : List α) (x : Set8) (t : Fin 8) :
    Set8.has (l.foldl (fun acc k => acc ||| f k) x) t = true ↔
      Set8.has x t = true ∨ ∃ k ∈ l, Set8.has (f k) t = true := by
  induction l generalizing x with
  | nil => simp
  | cons k l ih => simp [ih, or_assoc]

/-! ## Compositions (R23) -/

/-- The tier of a slot entry is its only member; a slot that is not assigned has none. -/
theorem has_entryTier (e : SlotEntry) (t : Tier) :
    Set8.has (entryTier e) t = true ↔ ∃ p : Program, e = some p ∧ p.tier = t := by
  cases e <;> simp [entryTier]

/-- The slots of band group `g` are those that 6 divides into `g`. -/
theorem exists_groupSlot_eq (g : Group) (i : Slot) : (∃ k : Fin 6, groupSlot g k = i) ↔ i.val / 6 = g.val := by
  constructor
  · rintro ⟨k, rfl⟩
    show (g.val * 6 + k.val) / 6 = g.val
    omega
  · intro h
    refine ⟨⟨i.val % 6, by omega⟩, Fin.ext ?_⟩
    show g.val * 6 + i.val % 6 = i.val
    omega

/-- A tier is in the composition of a band group exactly when an assigned slot of the group carries it (R23). -/
theorem has_compositionOf (lineup : LineUp) (g : Group) (t : Tier) :
    Set8.has (look (compositionOf lineup) g) t = true ↔
      ∃ (i : Slot) (e : Program), i.val / 6 = g.val ∧ look lineup i = some e ∧ e.tier = t := by
  have hslots : Set8.has (look (compositionOf lineup) g) t = true ↔
      ∃ k : Fin 6, ∃ e : Program, look lineup (groupSlot g k) = some e ∧ e.tier = t := by
    simp [compositionOf, groupTiers, Set8.has_foldl_or, has_entryTier]
  rw [hslots]
  constructor
  · rintro ⟨k, e, he⟩
    exact ⟨groupSlot g k, e, (exists_groupSlot_eq g _).mp ⟨k, rfl⟩, he⟩
  · rintro ⟨i, e, hi, he⟩
    obtain ⟨k, rfl⟩ := (exists_groupSlot_eq g i).mpr hi
    exact ⟨k, e, he⟩

/-! ## Desired images (R14) -/

/-- A band group passes exactly when its composition has a tier and every tier of it is authorized (R14). -/
theorem groupPasses_iff (comp : Composition) (a : Set8) (g : Group) :
    groupPasses comp a g = true ↔
      (∃ t : Tier, Set8.has (look comp g) t = true) ∧
        ∀ t : Tier, Set8.has (look comp g) t = true → Set8.has a t = true := by
  rw [groupPasses, Bool.and_eq_true, decide_eq_true_iff, Set8.ne_zero_iff, Set8.within_iff]

section
variable (comp : Composition) {x : Subscriber}

/-- The desired image of an ACTIVE subscriber has its switch ON and passes the groups that pass for its tiers (R14). -/
theorem desiredImage_of_active (h : x.state = .active) :
    desiredImage comp x = { on := true, pass := Set8.collect (groupPasses comp (x.tiers.getD 0)) } := by
  simp [desiredImage, h]

/-- The desired image of any other subscriber is off (R14). -/
theorem desiredImage_of_not_active (h : x.state ≠ .active) : desiredImage comp x = Image.off := by
  unfold desiredImage
  split
  · contradiction
  · rfl

/-- The switch of a desired image is ON exactly for an ACTIVE subscriber (R14). -/
theorem desiredImage_on (x : Subscriber) : (desiredImage comp x).on = true ↔ x.state = .active := by
  by_cases h : x.state = .active
  · simp [desiredImage_of_active comp h, h]
  · simp [desiredImage_of_not_active comp h, h, Image.off]

/-- A desired image passes a group exactly when the subscriber is ACTIVE and the group passes for its tiers (R14). -/
theorem has_desiredImage_pass (x : Subscriber) (g : Group) :
    Set8.has (desiredImage comp x).pass g = true ↔
      x.state = .active ∧ groupPasses comp (x.tiers.getD 0) g = true := by
  by_cases h : x.state = .active
  · simp [desiredImage_of_active comp h, h]
  · simp [desiredImage_of_not_active comp h, h, Image.off]

/-! ## Delivered tier sets (R118) -/

/-- A tier is delivered through a pass set exactly when some group carries it and every group that carries it is
passed (R118). -/
theorem tierDelivered_iff (pass : Set8) (t : Tier) :
    tierDelivered comp pass t = true ↔
      (∃ g : Group, Set8.has (look comp g) t = true) ∧
        ∀ g : Group, Set8.has (look comp g) t = true → Set8.has pass g = true := by
  simp [tierDelivered, imp_iff_not_or]

/-- With no confirmed image nothing is delivered (R118). -/
theorem deliveredSet_none (x : Subscriber) : deliveredSet comp x none = 0 := by
  cases hs : x.state <;> simp [deliveredSet, hs]

/-- To a subscriber that is not ACTIVE nothing is delivered (R118). -/
theorem deliveredSet_of_not_active (h : x.state ≠ .active) (confirmed : Option Image) :
    deliveredSet comp x confirmed = 0 := by
  unfold deliveredSet
  split
  · contradiction
  · rfl

/-- What is delivered to an ACTIVE subscriber through a confirmed image: nothing with its switch off, else its tiers that
the pass set delivers (R118). -/
theorem deliveredSet_of_active (h : x.state = .active) (im : Image) :
    deliveredSet comp x (some im) =
      if im.on then Set8.collect fun t => Set8.has (x.tiers.getD 0) t && tierDelivered comp im.pass t else 0 := by
  simp [deliveredSet, h]

/-- A tier is in the delivered tier set exactly when the subscriber is ACTIVE, a confirmed image is present with its
switch ON, the tier is authorized, and it is delivered through the pass set (R118). -/
theorem has_deliveredSet (x : Subscriber) (confirmed : Option Image) (t : Tier) :
    Set8.has (deliveredSet comp x confirmed) t = true ↔
      x.state = .active ∧
        ∃ im, confirmed = some im ∧ im.on = true ∧ Set8.has (x.tiers.getD 0) t = true ∧
          tierDelivered comp im.pass t = true := by
  by_cases hactive : x.state = .active
  · cases confirmed with
    | none => simp [deliveredSet_none]
    | some im => cases hon : im.on <;> simp [deliveredSet_of_active comp hactive, hactive, hon]
  · simp [deliveredSet_of_not_active comp hactive, hactive]

end

/-- Settles O33: the composition by its group's slots, the desired image and the delivered tier set by the state of the
subscriber. -/
theorem imagesAndDeliveryFollowTheComposition : Obligations.ImagesAndDeliveryFollowTheComposition := by
  unfold Obligations.ImagesAndDeliveryFollowTheComposition
  refine ⟨has_compositionOf, fun comp x => ⟨desiredImage_on comp x, fun g => ?image⟩,
    fun comp x confirmed t => ?delivered⟩
  case image => rw [has_desiredImage_pass, groupPasses_iff]
  case delivered => simp only [has_deliveredSet, tierDelivered_iff]

end Sys2Proof.Machine
end

section
/-!
SUPPORT. What CLAIM, CLAIM_QUEUED and WITHDRAW do to a lock (R155, R157): how a request of the lock table that every
role may make is carried out, the answer of each request by how its lock stands, and the two statements themselves.
-/

namespace Sys2Proof.Machine

/-! ## Requests that every role may make -/

/-- Every role is one of everyone. -/
theorem mem_everyone (r : Role) : r ∈ everyone := by
  cases r <;> decide

/-- A request that every role may make without a lock is served when its body has the row's length (R167). -/
theorem Asked.serving_of_everyone {s : State} {p : Port} {row : Row} {tag : Byte} {body : List Byte}
    (h : Asked s p row tag body) (hroles : row.roles = everyone) (hneed : row.need = .nothing)
    (hlen : body.length = row.body) : Serving s p row tag body where
  toAsked := h
  role := hroles ▸ mem_everyone _
  lock := by
    rw [hneed]
    trivial
  length := hlen

/-- A request being served is answered as its work answers it. -/
theorem Serving.carryOut_answer {s t : State} {p : Port} {row : Row} {tag : Byte} {body b : List Byte} {r : Result}
    {work : Port → List Byte → State → Answer} (h : Serving s p row tag body) (hc : knownCode row.code = true)
    (hb : row.body ≤ 255) (hw : work p body s = answer r b t) :
    outOfReset (Machine.carryOut row work p) s = t.answered p tag r b := by
  rw [h.carryOut hc hb, hw]
  rfl

section
variable {s t : State} {p : Port} {tag : Byte} {n : LockNo} {r : Result} {b : List Byte}

/-- A CLAIM that is asked is answered as its work answers it. -/
theorem exec_claim_of_asked (h : Asked s p Row.claim tag [byte n.val]) (hw : claim p [byte n.val] s = answer r b t) :
    exec (.claim p) s = .next (t.answered p tag r b) :=
  congrArg Host.Outcome.next ((h.serving_of_everyone rfl rfl rfl).carryOut_answer (by decide) (by decide) hw)

/-- A CLAIM_QUEUED that is asked is answered as its work answers it. -/
theorem exec_claimQueued_of_asked (h : Asked s p Row.claimQueued tag [byte n.val])
    (hw : claimQueued p [byte n.val] s = answer r b t) :
    exec (.claimQueued p) s = .next (t.answered p tag r b) :=
  congrArg Host.Outcome.next ((h.serving_of_everyone rfl rfl rfl).carryOut_answer (by decide) (by decide) hw)

/-- A WITHDRAW that is asked is answered as its work answers it. -/
theorem exec_withdraw_of_asked (h : Asked s p Row.withdraw tag [byte n.val])
    (hw : withdraw p [byte n.val] s = answer r b t) :
    exec (.withdraw p) s = .next (t.answered p tag r b) :=
  congrArg Host.Outcome.next ((h.serving_of_everyone rfl rfl rfl).carryOut_answer (by decide) (by decide) hw)

end

/-! ## Locks and waiter lists -/

/-- The lock argument of a request reads back from its byte. -/
theorem toFin_lockArg (n : LockNo) : toFin 19 (field [byte n.val] 0 1) = some n := by
  have hfield : field [byte n.val] 0 1 = n.val := (field_one ..).trans (toNat_byte_of_lt (by omega))
  rw [hfield, toFin_val]

/-- A port taken out of a waiter list that names no port twice is erased from it (R157). -/
theorem Lock.without_of_nodup {x : Lock} (h : x.waiters.Nodup) (p : Port) :
    x.without p = { x with waiters := x.waiters.erase p } := by
  rw [Lock.without, h.erase_eq_filter]
  simp [bne, beq_eq_decide]

section
variable {s : State} {p : Port} {n : LockNo}

/-- A free lock is granted to a port that can still gain by it (R155). -/
theorem State.grant_of_served (h : s.served p = true) (n : LockNo) :
    s.grant n p = s.setLock n { s.lock n with holder := some p } := by
  rw [State.grant, if_pos h]

/-- A port that can still gain by it joins the tail of the waiter list (R155). -/
theorem State.queueFor_of_served (h : s.served p = true) (n : LockNo) :
    s.queueFor n p = s.setLock n { s.lock n with waiters := (s.lock n).waiters ++ [p] } := by
  rw [State.queueFor, if_pos h]

/-! ## CLAIM -/

/-- CLAIM of a free lock grants it (R155). -/
theorem claim_free (hx : (s.lock n).holder = none) :
    claim p [byte n.val] s = answer .ok (grantedBody n p) (s.grant n p) := by
  simp [claim, toFin_lockArg, hx]

/-- CLAIM of a lock that the requester holds grants it again and changes nothing (R155). -/
theorem claim_own (hx : (s.lock n).holder = some p) :
    claim p [byte n.val] s = answer .ok (grantedBody n p) s := by
  simp [claim, toFin_lockArg, hx]

/-- CLAIM of a lock that another port holds tells the holder and changes nothing (R155). -/
theorem claim_held {h : Port} (hx : (s.lock n).holder = some h) (hne : h ≠ p) :
    claim p [byte n.val] s = answer .held [byte h.val] s := by
  simp [claim, toFin_lockArg, hx, hne, holderByte, identByte]

/-! ## CLAIM_QUEUED -/

/-- CLAIM_QUEUED of a lock that no other port holds is a CLAIM of it (R155). -/
theorem claimQueued_eq_claim (hx : ∀ h, (s.lock n).holder = some h → h = p) :
    claimQueued p [byte n.val] s = claim p [byte n.val] s := by
  cases hholder : (s.lock n).holder with
  | none => simp [claimQueued, claim, toFin_lockArg, hholder]
  | some h => simp [claimQueued, claim, toFin_lockArg, hholder, hx h hholder]

/-- CLAIM_QUEUED of a lock that another port holds, with the requester not waiting, puts the requester at the tail of
the waiter list (R155). -/
theorem claimQueued_joins {h : Port} (hx : (s.lock n).holder = some h) (hne : h ≠ p)
    (hw : p ∉ (s.lock n).waiters) :
    claimQueued p [byte n.val] s = answer .queued [byte ((s.lock n).waiters.length + 1)] (s.queueFor n p) := by
  simp [claimQueued, toFin_lockArg, hx, hne, hw]

/-- CLAIM_QUEUED of a lock that another port holds, with the requester waiting, tells the place it has and changes
nothing (R155). -/
theorem claimQueued_waits {h : Port} (hx : (s.lock n).holder = some h) (hne : h ≠ p)
    (hw : p ∈ (s.lock n).waiters) :
    claimQueued p [byte n.val] s = answer .queued [byte ((s.lock n).waiters.idxOf p + 1)] s := by
  simp [claimQueued, toFin_lockArg, hx, hne, hw]

/-! ## WITHDRAW -/

/-- WITHDRAW takes a port that waits out of the waiter list (R157). -/
theorem withdraw_waiting (hw : p ∈ (s.lock n).waiters) :
    withdraw p [byte n.val] s = answer .ok [] (s.setLock n ((s.lock n).without p)) := by
  simp [withdraw, toFin_lockArg, hw]

/-- WITHDRAW of a port that does not wait is refused (R157). -/
theorem withdraw_not_waiting (hw : p ∉ (s.lock n).waiters) :
    withdraw p [byte n.val] s = refuse .wrongState s := by
  simp [withdraw, toFin_lockArg, hw]

end

/-- Settles O21: CLAIM by the holder of its lock, CLAIM_QUEUED as a CLAIM where no other port holds the lock and by the
waiter list where one does; the requester can gain by the lock because its request is being served. -/
theorem claimsActByTheTable : Obligations.ClaimsActByTheTable := by
  unfold Obligations.ClaimsActByTheTable
  intro p tag n s x granted
  refine ⟨fun ha => ⟨fun hx => ?claimFree, fun hx => exec_claim_of_asked ha (claim_own hx),
      fun h hx hne => exec_claim_of_asked ha (claim_held hx hne)⟩,
    fun ha => ⟨fun hx => ?queuedFree, fun hx => ?queuedOwn,
      fun h hx hne => ⟨fun hw => ?joins, fun hw => exec_claimQueued_of_asked ha (claimQueued_waits hx hne hw)⟩⟩⟩
  case claimFree =>
    have hgrant := State.grant_of_served (ha.serving_of_everyone rfl rfl rfl).served n
    exact exec_claim_of_asked ha (hgrant ▸ claim_free hx)
  case queuedFree =>
    have hgrant := State.grant_of_served (ha.serving_of_everyone rfl rfl rfl).served n
    have hclaim : claimQueued p [byte n.val] s = claim p [byte n.val] s :=
      claimQueued_eq_claim fun h hh => nomatch hx.symm.trans hh
    exact exec_claimQueued_of_asked ha (hclaim.trans (hgrant ▸ claim_free hx))
  case queuedOwn =>
    have hclaim : claimQueued p [byte n.val] s = claim p [byte n.val] s :=
      claimQueued_eq_claim fun h hh => Option.some.inj (hh.symm.trans hx)
    exact exec_claimQueued_of_asked ha (hclaim.trans (claim_own hx))
  case joins =>
    have hqueue := State.queueFor_of_served (ha.serving_of_everyone rfl rfl rfl).served n
    exact exec_claimQueued_of_asked ha (hqueue ▸ claimQueued_joins hx hne hw)

/-- Settles O24: a waiter is erased because the waiter list names no port twice; any other port is refused. -/
theorem withdrawLeavesTheWaiterList : Obligations.WithdrawLeavesTheWaiterList := by
  unfold Obligations.WithdrawLeavesTheWaiterList
  intro p tag n s hnodup ha
  refine ⟨fun hw => ?waiting, fun hw => exec_withdraw_of_asked ha (withdraw_not_waiting hw)⟩
  case waiting =>
    have hwithdraw := Lock.without_of_nodup hnodup p ▸ withdraw_waiting hw
    exact exec_withdraw_of_asked ha hwithdraw

end Sys2Proof.Machine
end
